-- ==== Sys2Proof/Word.lean ====
section
/-! DEFINITION. The word types of the packet-memory bus and of the part's own time (spec/00_scope.md sections 3.3 and 3.5). -/

namespace Sys2Proof

/-- A 32-bit word of the packet-memory bus (section 3.5). -/
abbrev Word := BitVec 32

/-- A 32-bit microsecond count that wraps: an Air Time (R17) or a radio time (R26). -/
abbrev Time := BitVec 32

/-- A 24-bit byte address of the packet-memory bus (section 3.5). -/
abbrev Addr := BitVec 24

end Sys2Proof
end

