-- ==== Sys2Proof/Syntax.lean ====
section
/-! DEFINITION. The commands of the CV-31: one constructor for each row of spec/opcode_table.json, and the shapes of
their operands. The part has no instruction encoding: a command is a transfer at the U-port, an event at a pin, the
passing of a microsecond, or one step that a block takes (spec/95_what_each_step_holds.md). -/

namespace Sys2Proof

/-- The requester tag of a transfer (section 1.1 of spec/01). -/
inductive Tag where
  | cpu | txDma | rxDma | other
  deriving DecidableEq, Repr

/-- One word of a write with its four byte enables; enable bit `n` belongs to byte `n` (section 1.1). -/
structure WriteWord where
  data : Word
  enables : BitVec 4
  deriving DecidableEq, Repr

/-- One request at the U-port (section 1.1). A read carries the words that memory returns for it, in address order:
the packet SRAM stands behind the M-port, outside the part. -/
inductive Transfer where
  | read (tag : Tag) (addr : Addr) (returned : List Word)
  | write (tag : Tag) (addr : Addr) (words : List WriteWord)
  deriving DecidableEq, Repr

/-- The two moments of a read that the part works on: the U-port takes it, or the next of its work comes due
(the next report word is delivered, the next descriptor's last word returns). -/
inductive ReadEvent where
  | take (addr : Addr) (returned : List Word)
  | next
  deriving DecidableEq, Repr

/-- The two moments of a write by a DMA engine that the part works on: the U-port takes it, or the next word it carries that
the part looks at (a completion word, the last word of a record) goes to its block and on to memory. -/
inductive WriteEvent where
  | take (words : List WriteWord)
  | next
  deriving DecidableEq, Repr

/-- What a control record carries besides its marker and its kind code (section 11.4): the sequence, the
kind-specific high half of word 1, the payload words 2 to 6 and the checksum, word 7. -/
structure RecordBody where
  sequence : BitVec 8
  high : BitVec 16
  w2 : Word
  w3 : Word
  w4 : Word
  w5 : Word
  w6 : Word
  checksum : Word
  deriving DecidableEq, Repr

/-- The commands, one constructor for each row of the table. `addr` is the start address of the transfer that carries
the command. A record row fixes its kind code (and the KEEPALIVE value or the CLEAR bit that names the row). -/
inductive Instr where
  /-- PIN_RESET (R16): RESET is asserted. -/
  | pinReset
  /-- RESET_RELEASE (R17): RESET is released. -/
  | resetRelease
  /-- TEN_MILLISECOND_TICK (R20). -/
  | tenMillisecondTick
  /-- KEEPALIVE_EXPIRY (R158): the tick whose decrease brings the keep-alive counter to 0. -/
  | keepaliveExpiry
  /-- TRANSFER (R1): the U-port takes a transfer of any kind. -/
  | transfer (t : Transfer)
  /-- DESCRIPTOR_READ (R9): a TX-DMA read is taken, or the last word of its next descriptor returns. -/
  | descriptorRead (e : ReadEvent)
  /-- ADMISSION_RESULT (R132): the admission in progress ends. -/
  | admissionResult
  /-- COMPLETION_CANDIDATE (R10): a TX-DMA write is taken, or its next completion word is handled. For the latter `addr` only
  says which write it is, the one in service. -/
  | completionCandidate (addr : Addr) (e : WriteEvent)
  /-- POSSIBLE_ABANDONMENT (R11): a CPU write. -/
  | possibleAbandonment (addr : Addr) (words : List WriteWord)
  /-- STALE_EXPIRY (R137) of the pending entry for a descriptor index. -/
  | staleExpiry (index : Nat)
  /-- RECEIVE_RECORD_INTAKE (R6): an RX-DMA write is taken, or its next record is cut out. For the latter `addr` only says
  which write it is, the one in service. -/
  | receiveRecordIntake (addr : Addr) (e : WriteEvent)
  /-- REPORT_READ (R14): a CPU read is taken, or the next word of the open report read is delivered. -/
  | reportRead (e : ReadEvent)
  /-- UNKNOWN_KIND (R146): a control record whose kind code is 0 or 13..255. -/
  | unknownKind (addr : Addr) (kind : BitVec 8) (body : RecordBody)
  /-- WINDOWS (R149), kind code 1. -/
  | windows (addr : Addr) (body : RecordBody)
  /-- RADIO (R150), kind code 2. -/
  | radio (addr : Addr) (body : RecordBody)
  /-- RATES-LOW (R151), kind code 3. -/
  | ratesLow (addr : Addr) (body : RecordBody)
  /-- RATES-HIGH (R151), kind code 4. -/
  | ratesHigh (addr : Addr) (body : RecordBody)
  /-- MAINS (R152), kind code 5. -/
  | mains (addr : Addr) (body : RecordBody)
  /-- MAP (R153), kind code 6. -/
  | map (addr : Addr) (body : RecordBody)
  /-- NEIGHBOUR (R154), kind code 7. -/
  | neighbour (addr : Addr) (body : RecordBody)
  /-- SHAPING (R155), kind code 8. -/
  | shaping (addr : Addr) (body : RecordBody)
  /-- KEEPALIVE_REFRESH (R157): kind code 9, value 0x5AC3. -/
  | keepaliveRefresh (addr : Addr) (body : RecordBody)
  /-- KEEPALIVE_RELEASE (R157): kind code 9, value 0x0000. -/
  | keepaliveRelease (addr : Addr) (body : RecordBody)
  /-- ACKNOWLEDGE (R167), kind code 10. -/
  | acknowledge (addr : Addr) (body : RecordBody)
  /-- CLEAR_MAP (R160): kind code 11 with the map bit set. -/
  | clearMap (addr : Addr) (body : RecordBody)
  /-- CLEAR_NEIGHBOURS (R160): kind code 11 with the neighbours bit set. -/
  | clearNeighbours (addr : Addr) (body : RecordBody)
  /-- CLEAR_COUNTERS (R160): kind code 11 with the counters bit set. -/
  | clearCounters (addr : Addr) (body : RecordBody)
  /-- RESTART (R160), kind code 12. -/
  | restart (addr : Addr) (body : RecordBody)
  /-- MAINS_EDGE (R30): a transition of the MAINS input, to high when `rising`. -/
  | mainsEdge (rising : Bool)
  /-- LOCK_EXPIRY (R38). -/
  | lockExpiry
  /-- COAST_EXPIRY (R39). -/
  | coastExpiry
  /-- SPECTRAL_FOLD (R59). -/
  | spectralFold
  /-- RECEIVE_FOLD (R62). -/
  | receiveFold
  /-- COMPLETION_FOLD (R63). -/
  | completionFold
  /-- EVIDENCE (R72): the Map's evidence request in service ends. -/
  | evidence
  /-- AGE (R74): the Map's age request in service ends. -/
  | age
  /-- MAP_CLEAR (R77): the Map's clear request in service ends. -/
  | mapClear
  /-- MAP_SETTINGS (R76): the Map's settings request in service ends. -/
  | mapSettings
  /-- SNAPSHOT (R80): the Map's snapshot request in service makes its copy. -/
  | snapshot
  /-- BEACON_UPDATE (R89): the Schedule's update in service ends. -/
  | beaconUpdate
  /-- MISS_EXPIRY (R95): the miss expiry of the entry in a slot is taken. -/
  | missExpiry (slot : Fin 8)
  /-- MISSED_BEACON (R96): the Schedule's miss expiry in service ends. -/
  | missedBeacon
  /-- NEIGHBOUR_CLEAR (R101): the Schedule's clear request in service ends. -/
  | neighbourClear
  /-- NEIGHBOUR_SETTINGS (R100): the Schedule's settings request in service ends. -/
  | neighbourSettings
  /-- AIR_TIME_ADVANCE (R169): one microsecond of Air Time passes. -/
  | airTimeAdvance
  /-- KEEPALIVE_VALUE (R157): kind code 9 with a value that is neither the refresh nor the release. -/
  | keepaliveValue (addr : Addr) (value : BitVec 16) (body : RecordBody)
  deriving DecidableEq, Repr

end Sys2Proof
end

