-- ==== Sys2Proof/Decode.lean ====
section
/-! DEFINITION. The commands a word spells. spec/opcode_table.json gives no row any bits (its rows are events and steps of a
block, not encodings), so no word spells a command. -/

namespace Sys2Proof

/-- The command that a word spells by the table's bits: none, since no row has bits (log entry 1). -/
def decodeTableWord (nbits w : Nat) : Option Instr :=
  match nbits, w with
  | _, _ => none

end Sys2Proof
end

