-- ==== Sys2Proof/Config.lean ====
section
/-! DEFINITION. The constants the CV-31 specification fixes, and the one value it leaves open. -/

namespace Sys2Proof.Config

/-- The marker of a control record, word 0 (R12). -/
def marker : Word := 0x6A3C31E5#32

/-- The identity, report word 0 (R163). -/
def identity : Word := 0x0C310100#32

/-- The value Air Time takes and holds while RESET is asserted (R17). -/
def resetAirTime : Time := 0xFFFFFC00#32

/-- The refresh value of a KEEPALIVE record (R157). -/
def refreshValue : BitVec 16 := 0x5AC3#16

/-- The release value of a KEEPALIVE record (R157). -/
def releaseValue : BitVec 16 := 0x0000#16

/-- One past the last byte address of the bus: the 16 MiB limit (R2, R149). -/
def addressLimit : Nat := 16777216

/-- The number of entries the intake FIFO holds (R53). -/
def fifoCapacity : Nat := 8

/-- The number of entries the pending transmit list holds (R128). -/
def pendingCapacity : Nat := 16

/-- The value at which every report counter saturates (R164). -/
def counterLimit : Nat := 65535

/-- FREE VALUE (log entry 9). R94 chooses, among the entries of equal lowest confidence, the one whose
last-seen is the earliest, compared as signed differences. When those times span 2^31 microseconds or
more, no entry need be the earliest, and the spec states no victim: the position taken in the list of
candidates (slot, last-seen) is this constant of the list, which has no body. -/
opaque unorderedVictim : List (Nat × Time) → Nat

end Sys2Proof.Config
end

