-- ==== Sys2Proof/Machine/State.lean ====
section
/-! DEFINITION. The state of the CV-31 as plain data, block by block, and its value after reset. Each structure names
the rule of spec/ that gives its fields. -/

namespace Sys2Proof.Machine

/-! ### Names -/

/-- The part's mode (R156). -/
inductive Mode where
  | unconfigured | standby | active
  deriving DecidableEq, Repr

/-- Which MAINS edges are considered (R30). -/
inductive EdgeMode where
  | off | rising | falling | both
  deriving DecidableEq, Repr

/-- The tracker's lock state (section 3.3). -/
inductive LockState where
  | off | seeking | locking | locked | coasting | lost
  deriving DecidableEq, Repr

/-- The role the next accepted edge takes in BOTH mode (R32). -/
inductive Role where
  | reference | middle
  deriving DecidableEq, Repr

/-- A frame, span or channel width. -/
inductive Width where
  | mhz20 | mhz40
  deriving DecidableEq, Repr

/-- The secondary position (R150). -/
inductive Secondary where
  | none | above | below
  deriving DecidableEq, Repr

/-- A set of slices: the primary pair 0, 1, the primary pair 2, 3, or all four (R57). -/
inductive SliceSet where
  | low | high | all
  deriving DecidableEq, Repr

/-- The decision of an admission (chapter 7). -/
inductive Decision where
  | pass | narrow | defer | narrowDefer
  deriving DecidableEq, Repr

/-- The reason of a decision (R123, R136). -/
inductive Reason where
  | clear | pinned | unaligned | badfield | far | nowindow | relief | shaped | untracked
  deriving DecidableEq, Repr

/-- Why a control record was refused (R147). -/
inductive RejectReason where
  | none | unknownKind | windowAlign | windowZero | windowCount | windowRange | windowOverlap
  | channel | width | secondary | keepaliveValue | notReady
  deriving DecidableEq, Repr

/-- The kinds of received frame that become entries (R51, R52). -/
inductive FrameKind where
  | ownData | ownOther | foreignBeacon | foreignOther | corrupted
  deriving DecidableEq, Repr

/-- The outcome a COMPLETION entry reports (R55). -/
inductive TxOutcome where
  | success | failure
  deriving DecidableEq, Repr

/-- The event flags that have an event (R166). -/
inductive Flag where
  | policyAccepted | policyRejected | lockGained | lockLost | intakeOverflow
  | pendingEvicted | keepaliveExpired | timeStepped | neighbourFull | mapHot
  deriving DecidableEq, Repr

/-- The report counters, in slot order (R165). -/
inductive Counter where
  | partialRecord | checksumFail | step | acceptedEdge | glitch | periodFault
  | intakeDrop | malformedRecord | ignoredKind | offChannel | unphasedEvidence | spectralGap | foreignOther
  | intervalRange | reAnchor | neighbourRefused | neighbourReplaced | neighbourExpired
  | passDecisions | narrowDecisions | deferDecisions | narrowDeferDecisions
  | clearReasons | pinnedReasons | unalignedReasons | badfieldReasons | farReasons | nowindowReasons
  | reliefReasons | shapedReasons
  | repeated | superseded | evicted | abandoned | stale | matched | untracked
  | reject | clamp | keepaliveExpired
  deriving DecidableEq, Repr

/-! ### Policy fields (section 9.2) -/

/-- The eight words of a descriptor, a spectral record or a control record. -/
structure Words8 where
  w0 : Word
  w1 : Word
  w2 : Word
  w3 : Word
  w4 : Word
  w5 : Word
  w6 : Word
  w7 : Word
  deriving DecidableEq, Repr

/-- A window: its base address and its element count (section 1.2). -/
structure Window where
  base : Nat
  count : Nat
  deriving DecidableEq, Repr

/-- A full set of windows (R3); the report area has no count. -/
structure Windows where
  tx : Window
  rx : Window
  spectral : Window
  report : Nat
  deriving DecidableEq, Repr

/-- The RADIO fields (R150); the channel is absent until the first RADIO record. -/
structure RadioFields where
  channel : Option Nat
  width : Width
  secondary : Secondary
  preamble : Nat
  latency : Nat
  access : Nat
  deriving DecidableEq, Repr

/-- The rate table: D(c, 20) and D(c, 40) for each rate code (R107, R151). -/
structure RateTable where
  d20 : Vector Nat 16
  d40 : Vector Nat 16
  deriving DecidableEq, Repr

/-- The MAP fields that the Map keeps a copy of (R76). -/
structure MapSettings where
  hotLevel : Nat
  agePeriod : Nat
  ageShift : Nat
  deriving DecidableEq, Repr

/-- The MAP fields (R153). -/
structure MapFields where
  riseScan : Nat
  fallScan : Nat
  riseCorrupt : Nat
  fallClean : Nat
  riseFail : Nat
  fallSuccess : Nat
  hitLevel : Int
  busyMinimum : Nat
  corruptedOn : Bool
  cleanOn : Bool
  feedbackOn : Bool
  settings : MapSettings
  deriving DecidableEq, Repr

/-- The NEIGHBOUR fields (R154), of which the Schedule keeps a copy (R100). -/
structure NeighbourFields where
  tolerance : Nat
  guardBefore : Nat
  guardAfter : Nat
  protect : Nat
  deriving DecidableEq, Repr

/-- The SHAPING fields of the Admission Unit and the Rewriter (R155). -/
structure ShapingFields where
  holdLimit : Nat
  reliefCount : Nat
  acceptLevel : Nat
  timeoutMs : Nat
  deriving DecidableEq, Repr

/-- The WIN fields of a SHAPING record (R155), of which the Report Unit keeps a copy (R172). -/
structure WinFields where
  lead : Nat
  activeLow : Bool
  enable : Bool
  neighbourOption : Bool
  deriving DecidableEq, Repr

/-! ### Air Time Unit (chapter 2) -/

/-- Air Time, the offset, the alignment state and the outlier run (R17, R21, R25). `tickDue` is the ten-millisecond
tick raised at the present Air Time and not yet taken (R20). -/
structure AirTimeUnit where
  airTime : Time
  offset : Word
  aligned : Bool
  outlierRun : Nat
  tickDue : Bool
  deriving DecidableEq, Repr

/-! ### Mains Phase Tracker (chapter 3) -/

/-- The phase a piece of work takes: r and P, while phase is available (R45). -/
structure Phase where
  ref : Time
  period : Nat
  deriving DecidableEq, Repr

/-- The tracker's state (chapter 3), with the level of the MAINS input and the time of its latest transition (R30). -/
structure Tracker where
  edgeMode : EdgeMode
  coastLimit : Nat
  lockState : LockState
  period : Option Nat
  ref : Option Time
  lastAccepted : Option Time
  role : Role
  lockCount : Nat
  coastCount : Nat
  relockMark : Bool
  expiry : Option Time
  mainsHigh : Bool
  lastTransition : Option Time
  deriving DecidableEq, Repr

/-! ### Record Intake (chapter 4) -/

/-- The fields of a RECEIVE entry (R51). -/
structure ReceiveEntry where
  arrival : Time
  frameEnd : Time
  length : Nat
  rate : Fin 16
  width : Width
  kind : FrameKind
  address : BitVec 48
  interval : Nat
  deriving DecidableEq, Repr

/-- One slice report of a spectral record: a peak level in dBm and a busy fraction (R51). -/
structure SliceReport where
  level : Int
  busy : Nat
  deriving DecidableEq, Repr

/-- The fields of a SPECTRAL entry (R51). -/
structure SpectralEntry where
  start : Time
  duration : Nat
  channel : Nat
  span : Width
  report0 : SliceReport
  report1 : SliceReport
  report2 : SliceReport
  report3 : SliceReport
  sequence : Nat
  deriving DecidableEq, Repr

/-- The fields of a COMPLETION entry (R55). -/
structure CompletionEntry where
  outcome : TxOutcome
  start : Time
  airtime : Nat
  slices : SliceSet
  deriving DecidableEq, Repr

/-- What an entry of the intake FIFO holds (R51, R55). -/
inductive EntryBody where
  | receive (e : ReceiveEntry)
  | spectral (e : SpectralEntry)
  | completion (e : CompletionEntry)
  deriving DecidableEq, Repr

/-- An entry of the intake FIFO with its void marks (R53, R64). -/
structure Entry where
  body : EntryBody
  voidMap : Bool
  voidNeighbour : Bool
  deriving DecidableEq, Repr

/-- What the intake processor takes once at the start of a fold (R56). -/
structure FoldContext where
  phase : Option Phase
  radio : RadioFields
  rates : RateTable
  evidence : MapFields
  offset : Word
  aligned : Bool
  deriving DecidableEq, Repr

/-- A fold in progress: what it took, and whether it has handed on a request that is not yet served (R56). -/
structure Fold where
  context : FoldContext
  handedOn : Bool
  deriving DecidableEq, Repr

/-- Record Intake's state; the processor is IDLE exactly when `fold` is absent. -/
structure Intake where
  fifo : List Entry
  fold : Option Fold
  lastSequence : Option Nat
  deriving DecidableEq, Repr

/-! ### Occupancy Map (chapter 5) -/

/-- A run of `count` phase bins that begins at bin `first` and wraps from 63 to 0 (R58). -/
structure Span where
  first : Nat
  count : Nat
  deriving DecidableEq, Repr

/-- The step evidence calls for in a cell, with its shift (R72). -/
inductive CellStep where
  | rise (shift : Nat)
  | fall (shift : Nat)
  deriving DecidableEq, Repr

/-- An evidence request: the bins of a span crossed with the slices that carry a step (R72). -/
structure Evidence where
  span : Span
  slice0 : Option CellStep
  slice1 : Option CellStep
  slice2 : Option CellStep
  slice3 : Option CellStep
  deriving DecidableEq, Repr

/-- A request at the Map (R70). `forFold` says that the fold in progress waits for this request (R56). -/
inductive MapRequest where
  | evidence (e : Evidence) (forFold : Bool)
  | age
  | clear
  | settings (m : MapSettings)
  | snapshot
  deriving DecidableEq, Repr

/-- The Map's state. Cell (bin b, slice k) is number 4b + k. The head of `requests` is the request in service. -/
structure OccupancyMap where
  cells : Vector Nat 256
  cycleAge : Nat
  hotCount : Nat
  settings : MapSettings
  requests : List MapRequest
  snapshot : Vector Nat 256
  sequence : Nat
  deriving DecidableEq, Repr

/-! ### Neighbour Schedule (chapter 6) -/

/-- An entry of the neighbour table (R87) with its miss expiry (R95). `taken` says that the expiry as armed has been
taken and waits to be served (R96). -/
structure Neighbour where
  address : BitVec 48
  interval : Nat
  anchor : Time
  airtime : Nat
  confidence : Nat
  missCount : Nat
  misaligned : Nat
  lastSeen : Time
  expiry : Time
  taken : Bool
  deriving DecidableEq, Repr

/-- A beacon update (section 6.2). -/
structure BeaconUpdate where
  address : BitVec 48
  interval : Nat
  start : Time
  airtime : Option Nat
  deriving DecidableEq, Repr

/-- A request at the Schedule (R88). -/
inductive ScheduleRequest where
  | update (u : BeaconUpdate) (forFold : Bool)
  | expiry (slot : Fin 8) (address : BitVec 48)
  | clear
  | settings (n : NeighbourFields)
  deriving DecidableEq, Repr

/-- The Schedule's state. The head of `requests` is the request in service. -/
structure Schedule where
  slots : Vector (Option Neighbour) 8
  settings : NeighbourFields
  requests : List ScheduleRequest
  deriving DecidableEq, Repr

/-! ### Admission Unit and Descriptor Rewriter (chapters 7 and 8) -/

/-- The descriptor fields that identify one queued frame (R106, R128). -/
structure Fingerprint where
  length : Nat
  rate : Fin 16
  width : Width
  pinned : Bool
  narrowable : Bool
  deferrable : Bool
  notBefore : Time
  deriving DecidableEq, Repr

/-- An admission in progress: the descriptor judged, with the values fixed at its beginning (R105). -/
structure AdmissionView where
  index : Nat
  words : Words8
  now : Time
  offset : Word
  aligned : Bool
  phase : Option Phase
  cells : Vector Nat 256
  slots : Vector (Option Neighbour) 8
  guards : NeighbourFields
  radio : RadioFields
  rates : RateTable
  shaping : ShapingFields
  relief : Nat
  deriving DecidableEq, Repr

/-- The Admission Unit's state besides its counters. -/
structure AdmissionUnit where
  relief : Nat
  inProgress : Option AdmissionView
  deriving DecidableEq, Repr

/-- An entry of the pending transmit list (R128) with its stale expiry (R137). -/
structure PendingEntry where
  index : Nat
  fingerprint : Fingerprint
  decision : Decision
  reason : Reason
  width : Width
  notBefore : Option Time
  plannedStart : Time
  airtime : Nat
  slices : SliceSet
  plannedEnd : Time
  expiry : Time
  deriving DecidableEq, Repr

/-- The Rewriter's state besides its counters: the pending transmit list, the oldest entry first. -/
structure Rewriter where
  entries : List PendingEntry
  deriving DecidableEq, Repr

/-! ### Policy Unit (chapter 9) -/

/-- The Policy Unit's state besides its counters. Bit k - 1 of `received` stands for kind code k. The windows are held
by the Classifier (R3). -/
structure Policy where
  radio : RadioFields
  rates : RateTable
  edgeMode : EdgeMode
  coastLimit : Nat
  map : MapFields
  neighbour : NeighbourFields
  shaping : ShapingFields
  win : WinFields
  received : BitVec 8
  mode : Mode
  keepalivePeriod : Nat
  keepaliveCounter : Nat
  lastAcceptedKind : BitVec 8
  lastAcceptedSequence : BitVec 8
  lastRejectedSequence : BitVec 8
  lastRejectedReason : RejectReason
  deriving DecidableEq, Repr

/-! ### Report Unit (chapter 10) -/

/-- The Report Unit's state, with the levels of its two output lines: `attn` while ATTN pulls low, `winHigh` while WIN is
driven high. -/
structure Report where
  flags : BitVec 16
  enables : BitVec 16
  counters : Vector Nat 40
  win : WinFields
  attn : Bool
  winHigh : Bool
  deriving DecidableEq, Repr

/-! ### Transfer Classifier (chapter 1) -/

/-- A transfer as it leaves the M-port (R1). -/
structure Forwarded where
  write : Bool
  tag : Tag
  addr : Addr
  length : Nat
  words : List WriteWord
  deriving DecidableEq, Repr

/-- A run of words of a TX-DMA read that has not returned: outside the TX ring, part of a descriptor, or a whole
descriptor with its element index (R5). -/
inductive Segment where
  | outside (words : List Word)
  | partly (words : List Word)
  | whole (index : Nat) (words : Words8)
  deriving DecidableEq, Repr

/-- Words that have returned and wait behind a held descriptor (R8): to deliver as stored, or sampled for the Rewriter
with the Air Time of the return (R9). -/
inductive Piece where
  | stored (words : List Word)
  | sampled (index : Nat) (words : Words8) (time : Time)
  deriving DecidableEq, Repr

/-- A record that an RX-DMA write touches: a whole receive-status record or a whole spectral record, each with its element index,
or one that is partly covered (R5 to R7). -/
inductive IntakeRecord where
  | receive (index : Nat) (w0 w1 w2 w3 : Word)
  | spectral (index : Nat) (record : Words8)
  | partly
  deriving DecidableEq, Repr

/-- The transfer in service that has words left: a report read with each word's address and memory data, a TX-DMA read of
the TX ring, or a write with its words that memory has not accepted. A TX-DMA write marks each completion word with its
descriptor's index (R10); an RX-DMA write keeps the transfer's arrival time and marks the last word it carries of each
record with the record (R2, R6). -/
inductive Service where
  | report (rest : List (Nat × Word))
  | descriptors (toReturn : List Segment) (behind : List Piece)
  | completions (rest : List (Option Nat × WriteWord))
  | records (arrival : Time) (rest : List (Option IntakeRecord × WriteWord))
  deriving DecidableEq, Repr

/-- The Classifier's state and the bus ports: the windows, the transfer in service, the latest transfer at the M-port with
the words it has put there, the words delivered upstream for the latest transfer, whether transfers are observed, and
whether RESET is asserted (R16). -/
structure Classifier where
  windows : Option Windows
  service : Option Service
  mPort : Option Forwarded
  uPort : List Word
  observing : Bool
  resetAsserted : Bool
  deriving DecidableEq, Repr

/-! ### The machine -/

/-- The state of the part, and the queue of commands that wait, first in, first out. -/
structure State where
  air : AirTimeUnit
  tracker : Tracker
  intake : Intake
  map : OccupancyMap
  schedule : Schedule
  admission : AdmissionUnit
  rewriter : Rewriter
  policy : Policy
  report : Report
  bus : Classifier
  pending : List Instr
  deriving DecidableEq, Repr

/-- There is no fault: the bus carries no error response and every transfer ends (R1), so no constructor is raised. -/
inductive Fault where
  deriving DecidableEq, Repr

/-- Why a command is refused. -/
inductive Refusal where
  /-- Raised by an arm of `exec` whose command has no meaning yet; no arm does. Safe: the run stops. -/
  | notModelled (mnemonic : String)
  deriving DecidableEq, Repr

/-! ### Reset values, block by block -/

/-- The Air Time Unit after pin reset (R29). -/
def AirTimeUnit.reset : AirTimeUnit :=
  { airTime := Config.resetAirTime, offset := 0#32, aligned := false, outlierRun := 0, tickDue := false }

/-- The tracker after pin reset (R50). The level of the MAINS input is the detector's: the spec gives none (log entry 8). -/
def Tracker.reset : Tracker :=
  { edgeMode := .off, coastLimit := 1, lockState := .off, period := none, ref := none, lastAccepted := none,
    role := .reference, lockCount := 0, coastCount := 0, relockMark := false, expiry := none, mainsHigh := false,
    lastTransition := none }

/-- Record Intake after pin reset and RESTART (R67). -/
def Intake.reset : Intake := { fifo := [], fold := none, lastSequence := none }

/-- The reset values of the Map's settings (R76). -/
def MapSettings.reset : MapSettings := { hotLevel := 255, agePeriod := 0, ageShift := 1 }

/-- The Map after pin reset and RESTART (R85). -/
def OccupancyMap.reset : OccupancyMap :=
  { cells := Vector.replicate 256 0, cycleAge := 0, hotCount := 0, settings := .reset, requests := [],
    snapshot := Vector.replicate 256 0, sequence := 0 }

/-- The reset values of the NEIGHBOUR fields (R100). -/
def NeighbourFields.reset : NeighbourFields := { tolerance := 64, guardBefore := 0, guardAfter := 0, protect := 1 }

/-- The Schedule after pin reset and RESTART (R102). -/
def Schedule.reset : Schedule := { slots := Vector.replicate 8 none, settings := .reset, requests := [] }

/-- The Admission Unit after pin reset and RESTART (R127). -/
def AdmissionUnit.reset : AdmissionUnit := { relief := 0, inProgress := none }

/-- The Rewriter after pin reset and RESTART (R140). -/
def Rewriter.reset : Rewriter := { entries := [] }

/-- The reset values of the WIN fields (R172). -/
def WinFields.reset : WinFields := { lead := 0, activeLow := false, enable := false, neighbourOption := false }

/-- The Policy Unit after pin reset (section 9.2, R161). -/
def Policy.reset : Policy :=
  { radio := { channel := none, width := .mhz20, secondary := .none, preamble := 16, latency := 0, access := 0 }
    rates := { d20 := Vector.replicate 16 0, d40 := Vector.replicate 16 0 }
    edgeMode := .off
    coastLimit := 1
    map := { riseScan := 1, fallScan := 1, riseCorrupt := 1, fallClean := 1, riseFail := 1, fallSuccess := 1,
             hitLevel := 127, busyMinimum := 255, corruptedOn := false, cleanOn := false, feedbackOn := false,
             settings := .reset }
    neighbour := .reset
    shaping := { holdLimit := 0, reliefCount := 0, acceptLevel := 255, timeoutMs := 1 }
    win := .reset
    received := 0#8
    mode := .unconfigured
    keepalivePeriod := 1
    keepaliveCounter := 0
    lastAcceptedKind := 0#8
    lastAcceptedSequence := 0#8
    lastRejectedSequence := 0#8
    lastRejectedReason := .none }

/-- The Report Unit after pin reset and RESTART (R173). -/
def Report.reset : Report :=
  { flags := 0#16, enables := 0#16, counters := Vector.replicate 40 0, win := .reset, attn := false, winHigh := false }

/-- The Classifier after pin reset and release (R16): no windows, no held words, and transfers not yet observed. Nothing has
crossed the ports (log entry 8). -/
def Classifier.reset : Classifier :=
  { windows := none, service := none, mPort := none, uPort := [], observing := false, resetAsserted := false }

/-- The part right after a pin reset: RESET has just been released and Air Time has not yet advanced (R16, R17). -/
def State.reset : State :=
  { air := .reset, tracker := .reset, intake := .reset, map := .reset, schedule := .reset, admission := .reset,
    rewriter := .reset, policy := .reset, report := .reset, bus := .reset, pending := [] }

end Sys2Proof.Machine
end

