-- ==== Sys2Proof/Machine/Arith.lean ====
section
/-! DEFINITION. Arithmetic of the manual: times compared by their signed difference (R18), the rounding of section 3.4,
bit fields (section 3.5) and the score steps (R69). -/

namespace Sys2Proof.Machine

/-! ### Times -/

/-- The difference of two times, read as a signed 32-bit value (R18). -/
def sdiff (a b : Time) : Int := (a - b).toInt

/-- `a` is after `b` (R18). -/
def after (a b : Time) : Bool := decide (0 < sdiff a b)

/-- `a` is before `b` (R18). -/
def before (a b : Time) : Bool := decide (sdiff a b < 0)

/-- Air Time `now` reaches `t` (R18). -/
def reaches (now t : Time) : Bool := decide (0 ≤ sdiff now t)

/-- A time plus a duration, modulo 2^32 (R18). -/
def later (t : Time) (n : Nat) : Time := t + BitVec.ofNat 32 n

/-- A time less a duration, modulo 2^32 (R18). -/
def earlier (t : Time) (n : Nat) : Time := t - BitVec.ofNat 32 n

/-- A time moved by a signed amount, modulo 2^32. -/
def shifted (t : Time) (i : Int) : Time := t + BitVec.ofInt 32 i

/-- The ceiling of a quotient (section 3.4); the divisor is positive wherever it is used. -/
def ceilDiv (a b : Nat) : Nat := (a + b - 1) / b

/-! ### Bit fields -/

/-- The field of `len` bits whose lowest is bit `lo`. -/
def field (w : Word) (lo len : Nat) : Nat := (w.extractLsb' lo len).toNat

/-- The signed 8-bit field whose lowest bit is bit `lo`. -/
def signedField (w : Word) (lo : Nat) : Int := (w.extractLsb' lo 8).toInt

/-- Bit `i` of a word. -/
def flagBit (w : Word) (i : Nat) : Bool := w.getLsbD i

/-- A value placed in the field of `len` bits whose lowest is bit `lo`, the other bits 0. -/
def place (v lo len : Nat) : Word := (BitVec.ofNat 32 (v % 2 ^ len)) <<< lo

/-- A flag placed at bit `lo`. -/
def placeFlag (b : Bool) (lo : Nat) : Word := place b.toNat lo 1

/-! ### Scores -/

/-- Rise(s, k) (R69). -/
def riseScore (s k : Nat) : Nat := s + ceilDiv (255 - s) (2 ^ k)

/-- Fall(s, k) (R69). -/
def fallScore (s k : Nat) : Nat := s - ceilDiv s (2 ^ k)

/-- A cell's score after a step (R72). -/
def CellStep.apply (c : CellStep) (score : Nat) : Nat :=
  match c with
  | .rise k => riseScore score k
  | .fall k => fallScore score k

/-- A field held at 1 or more: 0 becomes 1 (R152 to R155). -/
def atLeastOne (n : Nat) : Nat := max 1 n

/-! ### Slices (R57) -/

/-- Whether a slice set holds slice `k`. -/
def SliceSet.has (set : SliceSet) (k : Nat) : Bool :=
  match set with
  | .low => decide (k < 2)
  | .high => decide (2 ≤ k ∧ k < 4)
  | .all => decide (k < 4)

/-- The primary pair: slices 2 and 3 for BELOW, slices 0 and 1 otherwise (R57). -/
def primaryPair (position : Secondary) : SliceSet :=
  match position with
  | .below => .high
  | .above => .low
  | .none => .low

/-- The slices an observation of a width covers, of those that exist (R57). -/
def coverage (observed operating : Width) (position : Secondary) : SliceSet :=
  match observed, operating with
  | .mhz40, .mhz40 => .all
  | _, _ => primaryPair position

/-! ### Phase and bins (R43, R44) -/

/-- The phase of an Air Time (R43). -/
def Phase.phaseOf (ph : Phase) (t : Time) : Nat := (sdiff t ph.ref % (ph.period : Int)).toNat

/-- The bin of a phase, for a period (R43). -/
def binOf (period d : Nat) : Nat := d * 64 / period

/-- The phase at which a bin begins, for a period (R44). -/
def binStart (period b : Nat) : Nat := ceilDiv (b * period) 64

/-- The bin of an Air Time (R43). -/
def Phase.bin (ph : Phase) (t : Time) : Nat := binOf ph.period (ph.phaseOf t)

/-- The run of bins from one to another, counting upward and wrapping from 63 to 0 (R58, R170). -/
def Span.run (b e : Nat) : Span := { first := b, count := (e + 64 - b) % 64 + 1 }

/-- All 64 bins. -/
def Span.full : Span := { first := 0, count := 64 }

/-- Whether a span holds a bin. -/
def Span.has (sp : Span) (b : Nat) : Bool := decide ((b + 64 - sp.first) % 64 < sp.count)

/-- The phase span of the interval [a, a + n), n at least 1 (R58): all bins when n is P or more or when the interval
passes the beginning of bin(a) again in the next cycle; otherwise the run from bin(a) to bin(a + n - 1). -/
def Phase.span (ph : Phase) (a : Time) (n : Nat) : Span :=
  if ph.period ≤ n then Span.full
  else if ph.period + binStart ph.period (ph.bin a) ≤ ph.phaseOf a + (n - 1) then Span.full
  else Span.run (ph.bin a) (ph.bin (later a (n - 1)))

/-! ### Airtime (R107) -/

/-- D(c, x), the rate table's entry for a rate code at a width. -/
def RateTable.entry (t : RateTable) (rate : Fin 16) (w : Width) : Nat :=
  match w with
  | .mhz20 => t.d20[rate]
  | .mhz40 => t.d40[rate]

/-- A(L, c, x), or nothing when the length or the rate table's entry is 0 (R107). -/
def airtimeOf (preamble : Nat) (rates : RateTable) (length : Nat) (rate : Fin 16) (w : Width) : Option Nat :=
  if length = 0 ∨ rates.entry rate w = 0 then none
  else some (min 65535 (preamble + 4 * ceilDiv (8 * length + 22) (rates.entry rate w)))

end Sys2Proof.Machine
end

