-- ==== Sys2Proof/Machine/Blackout.lean ====
section
/-! DEFINITION. The blackout windows of the neighbour table, as its readers ask for them (R98, R99). The windows of an
entry are placed on the line of integers that has the entry's anchor at 0; a time stands on it at its signed difference
from the reader's present time, added to the present time's own from the anchor (log entry 10). -/

namespace Sys2Proof.Machine

/-- The class that produces windows: confidence 3 or more (R87). -/
def Neighbour.tracked (e : Neighbour) : Bool := decide (3 ≤ e.confidence)

/-- The length of a beacon interval in microseconds (R87). -/
def Neighbour.period (e : Neighbour) : Nat := e.interval * 1024

/-- The place of time `t` on the entry's line, for a reader whose present time is `now`. -/
def Neighbour.placeOf (e : Neighbour) (now t : Time) : Int := sdiff now e.anchor + sdiff t now

/-- How far a window reaches past its predicted beacon's start: the beacon's airtime and the guard after it (R98). -/
def Neighbour.reach (e : Neighbour) (g : NeighbourFields) : Nat := e.airtime + g.guardAfter

/-- The least k of 0, 1, 2, ... with x before k × period + reach. -/
def leastEndingAfter (period reach : Nat) (x : Int) : Nat :=
  if x < reach then 0 else ((x - reach) / period).toNat + 1

/-- The first window of the entry that ends after both a present time and a place on its line. -/
def Neighbour.firstWindow (e : Neighbour) (g : NeighbourFields) (now : Time) (x : Int) : Nat :=
  max (leastEndingAfter e.period (e.reach g) (sdiff now e.anchor)) (leastEndingAfter e.period (e.reach g) x)

/-- Whether a window of the entry that ends after `now`, its beginning moved `lead` earlier, intersects [a, a + n)
(R99, R171). -/
def Neighbour.blocks (e : Neighbour) (g : NeighbourFields) (lead : Nat) (now a : Time) (n : Nat) : Bool :=
  let x := e.placeOf now a
  decide (((e.firstWindow g now x * e.period : Nat) : Int) - g.guardBefore - lead < x + n)

/-- The ends of the entry's windows in (a, a + h], as amounts after `a` (R99). -/
def Neighbour.endsAfter (e : Neighbour) (g : NeighbourFields) (now a : Time) (h : Nat) : List Nat :=
  let x := e.placeOf now a
  (List.range (h / e.period + 1)).filterMap fun j =>
    let y : Int := ((e.firstWindow g now x + j) * e.period + e.reach g : Nat)
    if x < y ∧ y ≤ x + h then some (y - x).toNat else none

/-- The TRACKED entries of a table. -/
def trackedEntries (slots : Vector (Option Neighbour) 8) : List Neighbour :=
  slots.toList.filterMap fun slot =>
    match slot with
    | some e => if e.tracked then some e else none
    | none => none

/-- The first question of R99: does any TRACKED window that ends after `now` intersect [a, a + n)? -/
def anyBlocks (slots : Vector (Option Neighbour) 8) (g : NeighbourFields) (lead : Nat) (now a : Time) (n : Nat) : Bool :=
  (trackedEntries slots).any fun e => e.blocks g lead now a n

end Sys2Proof.Machine
end

