-- ==== Sys2Proof/Machine/Flags.lean ====
section
/-! DEFINITION. The event flags, the enables and the saturating counters of the Report Unit (R164 to R168). -/

namespace Sys2Proof.Machine

/-- The number of a flag (R166). -/
def Flag.number (f : Flag) : Nat :=
  match f with
  | .policyAccepted => 0
  | .policyRejected => 1
  | .lockGained => 2
  | .lockLost => 3
  | .intakeOverflow => 4
  | .pendingEvicted => 5
  | .keepaliveExpired => 6
  | .timeStepped => 7
  | .neighbourFull => 8
  | .mapHot => 9

/-- The slot of a counter (R165). -/
def Counter.slot (c : Counter) : Fin 40 :=
  match c with
  | .partialRecord => 0
  | .checksumFail => 1
  | .step => 2
  | .acceptedEdge => 3
  | .glitch => 4
  | .periodFault => 5
  | .intakeDrop => 6
  | .malformedRecord => 7
  | .ignoredKind => 8
  | .offChannel => 9
  | .unphasedEvidence => 10
  | .spectralGap => 11
  | .foreignOther => 12
  | .intervalRange => 13
  | .reAnchor => 14
  | .neighbourRefused => 15
  | .neighbourReplaced => 16
  | .neighbourExpired => 17
  | .passDecisions => 18
  | .narrowDecisions => 19
  | .deferDecisions => 20
  | .narrowDeferDecisions => 21
  | .clearReasons => 22
  | .pinnedReasons => 23
  | .unalignedReasons => 24
  | .badfieldReasons => 25
  | .farReasons => 26
  | .nowindowReasons => 27
  | .reliefReasons => 28
  | .shapedReasons => 29
  | .repeated => 30
  | .superseded => 31
  | .evicted => 32
  | .abandoned => 33
  | .stale => 34
  | .matched => 35
  | .untracked => 36
  | .reject => 37
  | .clamp => 38
  | .keepaliveExpired => 39

/-- The word of flags with one flag set (R166). -/
def withFlag (flags : BitVec 16) (f : Flag) : BitVec 16 := flags ||| (1#16 <<< f.number)

/-- Whether a flag is set. -/
def hasFlag (flags : BitVec 16) (f : Flag) : Bool := flags.getLsbD f.number

/-- A counter that counts 1, holding at its limit (R164). -/
def saturated (n : Nat) : Nat := min Config.counterLimit (n + 1)

/-- The state with a flag set. -/
def State.setFlag (s : State) (f : Flag) : State := { s with report.flags := withFlag s.report.flags f }

/-- The state with a counter counted once. -/
def State.count (s : State) (c : Counter) : State :=
  { s with report.counters := s.report.counters.set c.slot (saturated s.report.counters[c.slot]) }

/-- The value of a counter. -/
def State.counter (s : State) (c : Counter) : Nat := s.report.counters[c.slot]

/-- The state with every counter at 0 (R160, R164). -/
def State.clearCounters (s : State) : State := { s with report.counters := Vector.replicate 40 0 }

/-- The condition of ATTN: some flag is set whose enable is set (R168). -/
def attnCondition (r : Report) : Bool := r.flags &&& r.enables != 0#16

/-- The counter of a decision (R125). -/
def Decision.counter (d : Decision) : Counter :=
  match d with
  | .pass => .passDecisions
  | .narrow => .narrowDecisions
  | .defer => .deferDecisions
  | .narrowDefer => .narrowDeferDecisions

/-- The counter of a reason (R125); UNTRACKED is counted by the Rewriter's own (R144). -/
def Reason.counter (r : Reason) : Counter :=
  match r with
  | .clear => .clearReasons
  | .pinned => .pinnedReasons
  | .unaligned => .unalignedReasons
  | .badfield => .badfieldReasons
  | .far => .farReasons
  | .nowindow => .nowindowReasons
  | .relief => .reliefReasons
  | .shaped => .shapedReasons
  | .untracked => .untracked

end Sys2Proof.Machine
end

