-- ==== Sys2Proof/Machine/Operands.lean ====
section
/-! DEFINITION. The operand forms of the commands: the words of a transfer and the windows they lie in (chapter 1), and the
record layouts (chapter 11). -/

namespace Sys2Proof.Machine

/-! ### Windows and the words of a transfer (R2, R5) -/

/-- The element sizes in bytes (section 1.2). -/
def descriptorSize : Nat := 32
/-- The size of a receive-status record. -/
def receiveSize : Nat := 16
/-- The size of a spectral record. -/
def spectralSize : Nat := 32
/-- The size of the report area. -/
def reportSize : Nat := 512

/-- One past the last address of a window whose elements have a size (section 1.2). -/
def Window.limit (w : Window) (size : Nat) : Nat := w.base + w.count * size

/-- Whether an address lies in a window; no address at or past the 16 MiB limit does (R2). -/
def Window.holds (w : Window) (size address : Nat) : Bool :=
  decide (w.base ≤ address ∧ address < w.limit size ∧ address < Config.addressLimit)

/-- Whether an address lies in the report area. -/
def Windows.inReport (w : Windows) (address : Nat) : Bool :=
  decide (w.report ≤ address ∧ address < w.report + reportSize ∧ address < Config.addressLimit)

/-- Whether an address lies in some window. -/
def Windows.inside (w : Windows) (address : Nat) : Bool :=
  w.tx.holds descriptorSize address || w.rx.holds receiveSize address ||
    w.spectral.holds spectralSize address || w.inReport address

/-- The address of word `i` of a transfer, without wrapping (R2). -/
def wordAddress (addr : Addr) (i : Nat) : Nat := addr.toNat + 4 * i

/-- The element of a window that an address lies in (R5). -/
def Window.element (w : Window) (size address : Nat) : Option Nat :=
  if w.holds size address then some ((address - w.base) / size) else none

/-- The index of an address's word in its element (R5). -/
def Window.wordIndex (w : Window) (size address : Nat) : Nat := ((address - w.base) % size) / 4

/-- A list with each run of equal neighbours reduced to one. -/
def squeeze {α : Type} [DecidableEq α] : List α → List α
  | [] => []
  | a :: rest =>
    match squeeze rest with
    | [] => [a]
    | b :: more => if a = b then b :: more else a :: b :: more

/-- The positions in a transfer of `n` words of the words of one element. -/
def Window.positions (w : Window) (size : Nat) (addr : Addr) (n element : Nat) : List Nat :=
  (List.range n).filter fun i => w.element size (wordAddress addr i) == some element

/-- Eight words from a list of eight. -/
def Words8.ofList (ws : List Word) : Words8 :=
  { w0 := ws.getD 0 0#32, w1 := ws.getD 1 0#32, w2 := ws.getD 2 0#32, w3 := ws.getD 3 0#32,
    w4 := ws.getD 4 0#32, w5 := ws.getD 5 0#32, w6 := ws.getD 6 0#32, w7 := ws.getD 7 0#32 }

/-- The eight words in order. -/
def Words8.toList (w : Words8) : List Word := [w.w0, w.w1, w.w2, w.w3, w.w4, w.w5, w.w6, w.w7]

/-- The words of a write at some positions, when every byte enable of each is set (R5). -/
def fullWords (words : List WriteWord) (positions : List Nat) : Option (List Word) :=
  positions.mapM fun i =>
    match words[i]? with
    | some w => if w.enables = 0xF#4 then some w.data else none
    | none => none

/-- The words of a record that a write holds whole (R5). -/
def Window.wholeRecord (w : Window) (size : Nat) (addr : Addr) (words : List WriteWord) (element : Nat) :
    Option (List Word) :=
  let positions := w.positions size addr words.length element
  if positions.length * 4 = size then fullWords words positions else none

/-! ### Transmit descriptor (section 11.1) -/

/-- The width flag: 0 is 20 MHz, 1 is 40 MHz. -/
def widthOfBit (b : Bool) : Width := if b then .mhz40 else .mhz20

/-- The fingerprint of a descriptor: the fields of words 1 and 2 (R106, R129). -/
def Words8.fingerprint (d : Words8) : Fingerprint :=
  { length := field d.w1 0 12
    rate := (d.w1.extractLsb' 12 4).toFin
    width := widthOfBit (flagBit d.w1 16)
    pinned := flagBit d.w1 17
    narrowable := flagBit d.w1 18
    deferrable := flagBit d.w1 19
    notBefore := d.w2 }

/-- The owner flag of a descriptor's word 4: set when the radio owns it. -/
def ownerIsRadio (w4 : Word) : Bool := flagBit w4 0

/-- The done flag of word 4. -/
def isDone (w4 : Word) : Bool := flagBit w4 1

/-- The result field of word 4. -/
def resultOf (w4 : Word) : Nat := field w4 2 2

/-- The retries field of word 4. -/
def retriesOf (w4 : Word) : Nat := field w4 4 4

/-- Word 4 with its byte 3 replaced by a shaping code (R10, R174). -/
def withShapingCode (w4 : Word) (code : BitVec 8) : Word := code ++ w4.extractLsb' 0 24

/-- Word 1 with its width flag at 20 MHz (R133, R174). -/
def withNarrowWidth (w1 : Word) : Word := w1 &&& ~~~(1#32 <<< 16)

/-! ### Receive-status record (section 11.2) -/

/-- The kind a kind code names; 5 to 7 are ignored (R52). -/
def frameKind (code : Nat) : Option FrameKind :=
  match code with
  | 0 => some .ownData
  | 1 => some .ownOther
  | 2 => some .foreignBeacon
  | 3 => some .foreignOther
  | 4 => some .corrupted
  | _ => none

/-- A receive-status record parsed into a RECEIVE entry (R51), or nothing when its kind is ignored (R52). -/
def receiveEntry (arrival : Time) (w0 w1 w2 w3 : Word) : Option ReceiveEntry :=
  (frameKind (field w1 17 3)).map fun kind =>
    { arrival := arrival
      frameEnd := w0
      length := field w1 0 12
      rate := (w1.extractLsb' 12 4).toFin
      width := widthOfBit (flagBit w1 16)
      kind := kind
      address := w3.extractLsb' 0 16 ++ w2
      interval := field w3 16 10 }

/-! ### Spectral record (section 11.3) -/

/-- The width a number of MHz names. -/
def widthOfNumber (n : Nat) : Option Width :=
  if n = 20 then some .mhz20 else if n = 40 then some .mhz40 else none

/-- The slice report whose peak level begins at bit `lo` of a word. -/
def sliceReport (w : Word) (lo : Nat) : SliceReport := { level := signedField w lo, busy := field w (lo + 8) 8 }

/-- A spectral record parsed into a SPECTRAL entry (R51), or nothing when it is malformed (R52). -/
def spectralEntry (d : Words8) : Option SpectralEntry :=
  match widthOfNumber (field d.w1 24 8) with
  | none => none
  | some span =>
    if field d.w1 0 16 = 0 then none
    else some
      { start := d.w0
        duration := field d.w1 0 16
        channel := field d.w1 16 8
        span := span
        report0 := sliceReport d.w2 0
        report1 := sliceReport d.w2 16
        report2 := sliceReport d.w3 0
        report3 := sliceReport d.w3 16
        sequence := field d.w7 0 16 }

/-! ### Control record (section 11.4) -/

/-- The frame of a control record: marker, word 1 from the high half, the sequence and the kind code, payload, checksum. -/
def recordFrame (kind : BitVec 8) (body : RecordBody) : Words8 :=
  { w0 := Config.marker, w1 := (body.high ++ body.sequence ++ kind : BitVec 32), w2 := body.w2, w3 := body.w3,
    w4 := body.w4, w5 := body.w5, w6 := body.w6, w7 := body.checksum }

/-- A KEEPALIVE frame: kind code 9 with the value in word 2, bits 15:0. -/
def keepaliveFrame (value : BitVec 16) (body : RecordBody) : Words8 :=
  { recordFrame 9#8 body with w2 := body.w2.extractLsb' 16 16 ++ value }

/-- A CLEAR frame: kind code 11 with one bit of word 2 set. -/
def clearFrame (bit : Nat) (body : RecordBody) : Words8 :=
  { recordFrame 11#8 body with w2 := body.w2 ||| (1#32 <<< bit) }

/-- The eight words as a write with every byte enable set. -/
def Words8.toWrite (w : Words8) : List WriteWord := w.toList.map fun d => { data := d, enables := 0xF#4 }

/-- The kind code of a record (section 11.4). -/
def Words8.kindCode (w : Words8) : BitVec 8 := w.w1.extractLsb' 0 8

/-- The sequence of a record (section 11.4). -/
def Words8.sequence (w : Words8) : BitVec 8 := w.w1.extractLsb' 8 8

/-- The sum of the eight words, carries out of bit 31 discarded (R13). -/
def Words8.sum (w : Words8) : Word := w.w0 + w.w1 + w.w2 + w.w3 + w.w4 + w.w5 + w.w6 + w.w7

/-- The windows a WINDOWS record carries (section 11.4). -/
def Words8.windowsCarried (w : Words8) : Windows :=
  { tx := { base := field w.w2 0 24, count := field w.w6 0 11 }
    rx := { base := field w.w3 0 24, count := field w.w6 11 11 }
    spectral := { base := field w.w4 0 24, count := field w.w6 22 10 }
    report := field w.w5 0 24 }

/-- The secondary position a code names (section 11.4). -/
def secondaryOfCode (code : Nat) : Option Secondary :=
  match code with
  | 0 => some .none
  | 1 => some .above
  | 2 => some .below
  | _ => none

/-- The edge mode a code names (section 11.4). -/
def edgeModeOfCode (code : Nat) : EdgeMode :=
  match code with
  | 0 => .off
  | 1 => .rising
  | 2 => .falling
  | _ => .both

/-- Value j of a RATES record: eleven bits of the 176-bit run that begins at bit 16 of word 1 (section 11.4). -/
def Words8.rateValue (w : Words8) (j : Nat) : Nat :=
  let run : BitVec 176 := w.w6 ++ w.w5 ++ w.w4 ++ w.w3 ++ w.w2 ++ w.w1.extractLsb' 16 16
  (run.extractLsb' (11 * j) 11).toNat

/-- One half of the rate table replaced by a RATES record's values, from code `base` (R151). -/
def RateTable.replace (t : RateTable) (base : Nat) (w : Words8) : RateTable :=
  { d20 := Vector.ofFn fun c =>
      if base ≤ c.val ∧ c.val < base + 8 then w.rateValue (2 * (c.val - base)) else t.d20[c]
    d40 := Vector.ofFn fun c =>
      if base ≤ c.val ∧ c.val < base + 8 then w.rateValue (2 * (c.val - base) + 1) else t.d40[c] }

/-- The MAP fields a record carries, before clamping (section 11.4). -/
def Words8.mapCarried (w : Words8) : MapFields :=
  { riseScan := field w.w2 0 3
    fallScan := field w.w2 4 3
    riseCorrupt := field w.w2 8 3
    fallClean := field w.w2 12 3
    riseFail := field w.w2 16 3
    fallSuccess := field w.w2 20 3
    hitLevel := signedField w.w3 0
    busyMinimum := field w.w3 8 8
    corruptedOn := flagBit w.w4 8
    cleanOn := flagBit w.w4 9
    feedbackOn := flagBit w.w4 10
    settings := { hotLevel := field w.w3 16 8, agePeriod := field w.w3 24 8, ageShift := field w.w4 0 3 } }

/-- The NEIGHBOUR fields a record carries, before clamping (section 11.4). -/
def Words8.neighbourCarried (w : Words8) : NeighbourFields :=
  { tolerance := field w.w2 0 12, guardBefore := field w.w2 16 12, guardAfter := field w.w3 0 12,
    protect := field w.w3 16 3 }

/-- The admission fields a SHAPING record carries, before clamping (section 11.4). -/
def Words8.shapingCarried (w : Words8) : ShapingFields :=
  { holdLimit := field w.w2 0 14, reliefCount := field w.w2 16 4, acceptLevel := field w.w2 24 8,
    timeoutMs := field w.w3 0 8 }

/-- The WIN fields a SHAPING record carries (section 11.4). -/
def Words8.winCarried (w : Words8) : WinFields :=
  { lead := field w.w3 16 12, activeLow := flagBit w.w4 0, enable := flagBit w.w4 1,
    neighbourOption := flagBit w.w4 2 }

/-! ### Shaping code (section 11.5) -/

/-- The decision field. -/
def Decision.code (d : Decision) : BitVec 2 :=
  match d with
  | .pass => 0#2
  | .narrow => 1#2
  | .defer => 2#2
  | .narrowDefer => 3#2

/-- The reason field. -/
def Reason.code (r : Reason) : BitVec 6 :=
  match r with
  | .clear => 1#6
  | .pinned => 2#6
  | .unaligned => 3#6
  | .badfield => 4#6
  | .far => 5#6
  | .nowindow => 6#6
  | .relief => 7#6
  | .shaped => 8#6
  | .untracked => 9#6

/-- The shaping code of a decision and its reason. -/
def shapingCode (d : Decision) (r : Reason) : BitVec 8 := d.code ++ r.code

end Sys2Proof.Machine
end

