-- ==== Sys2Proof/Machine/Ops.lean ====
section
/-! DEFINITION. The operations several blocks share: what the tracker answers, the requests sent to the Map and the
Schedule with the void marks they bring, the alignment sample, and the start, the end and the arrivals of Record Intake. -/

namespace Sys2Proof.Machine

/-! ### What the tracker answers (R43, R45) -/

/-- The phase a piece of work takes: available in LOCKED and COASTING, with r and P (R43). -/
def Tracker.phase (t : Tracker) : Option Phase :=
  match t.lockState, t.ref, t.period with
  | .locked, some r, some p => some { ref := r, period := p }
  | .coasting, some r, some p => some { ref := r, period := p }
  | _, _, _ => none

/-! ### Requests and void marks -/

/-- A request joins those at the Map, behind the ones already there (R70). -/
def State.sendMap (s : State) (q : MapRequest) : State := { s with map.requests := s.map.requests ++ [q] }

/-- A request joins those at the Schedule, behind the ones already there (R88). -/
def State.sendSchedule (s : State) (q : ScheduleRequest) : State :=
  { s with schedule.requests := s.schedule.requests ++ [q] }

/-- Every entry of the FIFO marked void-for-map, the one being folded included (R64). -/
def State.voidForMap (s : State) : State :=
  { s with intake.fifo := s.intake.fifo.map fun e => { e with voidMap := true } }

/-- Every entry of the FIFO marked void-for-neighbour (R64). -/
def State.voidForNeighbour (s : State) : State :=
  { s with intake.fifo := s.intake.fifo.map fun e => { e with voidNeighbour := true } }

/-- A map clear request, with the marks set at its sending (R64, R78). -/
def State.sendMapClear (s : State) : State := s.voidForMap.sendMap .clear

/-- A neighbour clear request, with the marks set at its sending (R64, R101). -/
def State.sendNeighbourClear (s : State) : State := s.voidForNeighbour.sendSchedule .clear

/-- The reference-edge events: an age step, then a snapshot request (R46). DESIGN CHOICE, unsafe (log entry 28): both are sent in
one command, so no other request arrives between them; R79 lets one arrive there. -/
def State.referenceEvents (s : State) : State := (s.sendMap .age).sendMap .snapshot

/-- The pending transmit list emptied, with no count and no flag (R139). -/
def State.emptyPending (s : State) : State := { s with rewriter.entries := [] }

/-! ### The alignment sample (R22 to R25) -/

/-- The sample a RECEIVE entry gives (R22). -/
def ReceiveEntry.sample (e : ReceiveEntry) (latency : Nat) : Word := e.frameEnd - earlier e.arrival latency

/-- Whether an offset error lies in the window (R24). -/
def errorInWindow (e : Int) : Bool := decide (-32 ≤ e ∧ e ≤ 32)

/-- The Air Time Unit takes a sample: it aligns, slews, counts an outlier, or steps (R23 to R25). -/
def State.takeSample (s : State) (sample : Word) : State :=
  if !s.air.aligned then
    { s with air.offset := sample, air.aligned := true, air.outlierRun := 0 }
  else if errorInWindow (sdiff sample s.air.offset) then
    { s with
      air.offset := shifted s.air.offset ((sdiff sample s.air.offset).tdiv 4)
      air.outlierRun := 0 }
  else if s.air.outlierRun + 1 < 4 then
    { s with air.outlierRun := s.air.outlierRun + 1 }
  else
    (({ s with air.offset := sample, air.outlierRun := 0 } : State).setFlag .timeStepped).count .step

/-! ### Record Intake -/

/-- The sample of the entry whose fold starts, when it is a RECEIVE entry (R22, R61). -/
def State.sampleFor (s : State) (e : Entry) : State :=
  match e.body with
  | .receive r => s.takeSample (r.sample s.policy.radio.latency)
  | .spectral _ => s
  | .completion _ => s

/-- What the processor takes once at the start of a fold (R56). -/
def State.foldContext (s : State) : FoldContext :=
  { phase := s.tracker.phase, radio := s.policy.radio, rates := s.policy.rates, evidence := s.policy.map,
    offset := s.air.offset, aligned := s.air.aligned }

/-- An idle processor begins to fold the head entry at once: the sample first, then the values it takes (R56). -/
def State.startFold (s : State) : State :=
  match s.intake.fold, s.intake.fifo with
  | none, e :: _ =>
    let t := s.sampleFor e
    { t with intake.fold := some { context := t.foldContext, handedOn := false } }
  | _, _ => s

/-- The fold ends: its entry leaves the head, and the next fold begins at once (R56). -/
def State.endFold (s : State) : State :=
  ({ s with intake.fifo := s.intake.fifo.tail, intake.fold := none } : State).startFold

/-- The end of the fold that waited for a request, when one did (R56). -/
def State.endFoldIf (s : State) (forFold : Bool) : State := if forFold then s.endFold else s

/-- A valid entry arrives: it joins the FIFO with both marks clear and an idle processor begins it, or it is dropped at a
full FIFO (R53, R54, R56). -/
def State.arrive (s : State) (body : EntryBody) : State :=
  if Config.fifoCapacity ≤ s.intake.fifo.length then (s.setFlag .intakeOverflow).count .intakeDrop
  else
    ({ s with
      intake.fifo := s.intake.fifo ++ [{ body := body, voidMap := false, voidNeighbour := false }] } : State).startFold

/-- The same request with no fold waiting for it. -/
def MapRequest.orphaned (q : MapRequest) : MapRequest :=
  match q with
  | .evidence e _ => .evidence e false
  | .age => .age
  | .clear => .clear
  | .settings m => .settings m
  | .snapshot => .snapshot

/-- The same request with no fold waiting for it. -/
def ScheduleRequest.orphaned (q : ScheduleRequest) : ScheduleRequest :=
  match q with
  | .update u _ => .update u false
  | .expiry i a => .expiry i a
  | .clear => .clear
  | .settings n => .settings n

/-- The FIFO emptied by a change of primary channel (R66): every entry is removed, the processor is IDLE and the last
spectral sequence absent. A request already handed on stays at its block, and no fold waits for it. -/
def State.emptyFifo (s : State) : State :=
  { s with
    intake := .reset
    map.requests := s.map.requests.map MapRequest.orphaned
    schedule.requests := s.schedule.requests.map ScheduleRequest.orphaned }

end Sys2Proof.Machine
end

