-- ==== Sys2Proof/Machine/Lines.lean ====
section
/-! DEFINITION. The output lines ATTN and WIN (R168 to R172), driven at the end of every command, and the answer every
meaning gives. -/

namespace Sys2Proof.Machine

/-- The score of the cell of a bin and a slice; cells outside the map do not exist and read 0. -/
def scoreAt (cells : Vector Nat 256) (bin slice : Nat) : Nat := (cells[4 * bin + slice]?).getD 0

/-- Whether some cell of a span's bins and a set of slices meets a test. -/
def anyCell (sp : Span) (set : SliceSet) (test : Nat → Nat → Bool) : Bool :=
  (List.range 64).any fun b => sp.has b && (List.range 4).any fun k => set.has k && test b k

/-- The burst condition at the present time: a cell of the primary pair in the run from bin(t) to bin(t + lead) scores at
or above the Map's hot level (R170). -/
def State.burst (s : State) (ph : Phase) : Bool :=
  let t := s.air.airTime
  anyCell (Span.run (ph.bin t) (ph.bin (later t s.report.win.lead))) (primaryPair s.policy.radio.secondary)
    fun b k => decide (s.map.settings.hotLevel ≤ scoreAt s.map.cells b k)

/-- The neighbour condition at the present time (R171). -/
def State.neighbourCondition (s : State) : Bool :=
  let t := s.air.airTime
  anyBlocks s.schedule.slots s.schedule.settings s.report.win.lead t t 1

/-- WIN is at its active level (R169). -/
def State.winActive (s : State) : Bool :=
  s.report.win.enable && s.policy.mode != .unconfigured &&
    match s.tracker.phase with
    | none => false
    | some ph => s.burst ph || (s.report.win.neighbourOption && s.neighbourCondition)

/-- The level of WIN: high when active under active-high, the reverse under active-low (R172); low while RESET is
asserted. -/
def State.winLevel (s : State) : Bool := !s.bus.resetAsserted && (s.winActive != s.report.win.activeLow)

/-- The two output lines driven from the state (R168, R169). -/
def State.driveLines (s : State) : State :=
  { s with report.attn := attnCondition s.report, report.winHigh := s.winLevel }

/-- The answer of a meaning: the next state, its lines driven. -/
def answer (s : State) : Host.Outcome State Fault Refusal := .next s.driveLines

end Sys2Proof.Machine
end

