-- ==== Sys2Proof/Machine/MainsTracker.lean ====
section
/-! DEFINITION. The Mains Phase Tracker (chapter 3): MAINS_EDGE, LOCK_EXPIRY and COAST_EXPIRY. -/

namespace Sys2Proof.Machine

/-- The least time between two transitions that makes the later one an edge, in microseconds (R30). -/
def edgeSpacing : Int := 100

/-- A transition at Air Time `t` is an edge (R30). -/
def Tracker.isEdge (tr : Tracker) (t : Time) : Bool :=
  match tr.lastTransition with
  | none => true
  | some t0 => decide (edgeSpacing ≤ sdiff t t0)

/-- Whether an edge mode considers an edge of a direction (R30). -/
def EdgeMode.considers (m : EdgeMode) (rising : Bool) : Bool :=
  match m with
  | .off => false
  | .rising => rising
  | .falling => !rising
  | .both => true

/-- The minimum spacing of accepted edges (R31). -/
def Tracker.minimumSpacing (tr : Tracker) : Nat :=
  match tr.period with
  | some p => p / 4
  | none => 3750

/-- The spacing test (R31). -/
def Tracker.spacingOk (tr : Tracker) (t : Time) : Bool :=
  match tr.lastAccepted with
  | none => true
  | some t0 => decide ((tr.minimumSpacing : Int) ≤ sdiff t t0)

/-- The states in which the middle window is tested (R32). -/
def LockState.testsMiddle (l : LockState) : Bool :=
  match l with
  | .locking => true
  | .locked => true
  | .coasting => true
  | .off => false
  | .seeking => false
  | .lost => false

/-- The middle window test, which passes where R32 does not call for it. -/
def Tracker.windowOk (tr : Tracker) (t : Time) : Bool :=
  match tr.role, tr.lockState.testsMiddle, tr.period, tr.ref with
  | .middle, true, some p, some r => decide (2 * (p : Int) ≤ 5 * sdiff t r ∧ 5 * sdiff t r ≤ 3 * (p : Int))
  | _, _, _, _ => true

/-- A raw period that is not a period fault (R33). -/
def validPeriod (p : Int) : Bool := decide (15000 ≤ p ∧ p ≤ 22000)

/-- A valid raw period in tolerance of the estimate (R34). -/
def inTolerance (estimate : Option Nat) (p : Nat) : Bool :=
  match estimate with
  | some e => decide (p ≤ e + e / 32 ∧ e ≤ p + e / 32)
  | none => false

/-- The estimate moved an eighth of the way to a raw period, rounded toward the estimate (R34). -/
def updatedPeriod (estimate p : Nat) : Nat := ((estimate : Int) + ((p : Int) - estimate).tdiv 8).toNat

/-- The time at which the lock or coast expiry is armed: r + P + P/2 (R37). -/
def expiryTime (r : Time) (p : Nat) : Time := later r (p + p / 2)

/-- The role a reference edge, real or virtual, leaves (R32). -/
def EdgeMode.roleAfterReference (m : EdgeMode) : Role :=
  match m with
  | .both => .middle
  | .off => .reference
  | .rising => .reference
  | .falling => .reference

/-- To SEEKING with r at an edge: P absent, the counts 0, the expiry disarmed (R34, R35). -/
def Tracker.seekFrom (tr : Tracker) (t : Time) : Tracker :=
  { tr with
    lockState := .seeking, period := none, ref := some t, lockCount := 0, coastCount := 0, expiry := none }

/-- To LOCKING with the raw period as the estimate (R34): the lock count 1, r at the edge, no expiry. -/
def Tracker.lockingFrom (tr : Tracker) (t : Time) (p : Nat) : Tracker :=
  { tr with
    lockState := .locking, period := some p, ref := some t, lockCount := 1, coastCount := 0, expiry := none }

/-- In LOCKED with r at the edge: the estimate replaced, the coast count 0, the lock expiry armed (R37). -/
def Tracker.lockedAt (tr : Tracker) (t : Time) (p : Nat) : Tracker :=
  { tr with
    lockState := .locked, period := some p, ref := some t, coastCount := 0, expiry := some (expiryTime t p) }

/-- The map clear a re-lock in BOTH calls for, when the re-lock clear mark is set (R41). -/
def State.relockClear (s : State) : State :=
  match s.tracker.relockMark, s.tracker.edgeMode with
  | true, .both => s.sendMapClear
  | _, _ => s

/-- Entry to LOCKED from LOCKING: LOCK_GAINED, the re-lock clear, then the reference-edge events (R36, R41, R46), the requests sent
with no other between them (log entry 28). -/
def State.gainLock (s : State) (t : Time) (p : Nat) : State :=
  let u := (s.setFlag .lockGained).relockClear
  { u with tracker := { u.tracker.lockedAt t p with lockCount := 4, relockMark := false } }.referenceEvents

/-- A reference edge in LOCKING with raw period `p` (R36). -/
def State.referenceInLocking (s : State) (t : Time) (p : Int) : State :=
  if !validPeriod p then { s.count .periodFault with tracker := s.tracker.seekFrom t }
  else if !inTolerance s.tracker.period p.toNat then { s with tracker := s.tracker.lockingFrom t p.toNat }
  else if 4 ≤ s.tracker.lockCount + 1 then
    s.gainLock t (updatedPeriod (s.tracker.period.getD 0) p.toNat)
  else
    { s with
      tracker.period := some (updatedPeriod (s.tracker.period.getD 0) p.toNat)
      tracker.ref := some t
      tracker.lockCount := s.tracker.lockCount + 1 }

/-- A reference edge in LOCKED with raw period `p` (R37). -/
def State.referenceInLocked (s : State) (t : Time) (p : Int) : State :=
  if !validPeriod p then { s.count .periodFault with tracker := s.tracker.seekFrom t }
  else if !inTolerance s.tracker.period p.toNat then { s with tracker := s.tracker.lockingFrom t p.toNat }
  else
    ({ s with
      tracker := s.tracker.lockedAt t (updatedPeriod (s.tracker.period.getD 0) p.toNat) } : State).referenceEvents

/-- A reference edge in COASTING with raw period `p`; a period fault leaves the role REFERENCE (R40). -/
def State.referenceInCoasting (s : State) (t : Time) (p : Int) : State :=
  if !validPeriod p then { s.count .periodFault with tracker.role := .reference }
  else if !inTolerance s.tracker.period p.toNat then { s with tracker := s.tracker.lockingFrom t p.toNat }
  else
    ({ s with
      tracker := s.tracker.lockedAt t (updatedPeriod (s.tracker.period.getD 0) p.toNat) } : State).referenceEvents

/-- A reference edge in SEEKING with raw period `p` (R35). -/
def State.referenceInSeeking (s : State) (t : Time) (p : Int) : State :=
  if !validPeriod p then { s.count .periodFault with tracker := s.tracker.seekFrom t }
  else { s with tracker := s.tracker.lockingFrom t p.toNat }

/-- A reference edge captured at `t`, by lock state (R33, R35 to R37, R40, R41). An edge with no reference before it gives
no raw period and becomes the first reference. -/
def State.referenceEdge (s : State) (t : Time) : State :=
  match s.tracker.lockState, s.tracker.ref with
  | .off, _ => s
  | .lost, _ => { s with tracker := s.tracker.seekFrom t }
  | _, none => { s with tracker.ref := some t }
  | .seeking, some r => s.referenceInSeeking t (sdiff t r)
  | .locking, some r => s.referenceInLocking t (sdiff t r)
  | .locked, some r => s.referenceInLocked t (sdiff t r)
  | .coasting, some r => s.referenceInCoasting t (sdiff t r)

/-- An accepted edge: counted, the last accepted edge moved, then a middle edge or a reference edge by the role (R31,
R32). -/
def State.acceptEdge (s : State) (t : Time) : State :=
  let u := { s.count .acceptedEdge with tracker.lastAccepted := some t }
  match s.tracker.role with
  | .middle => { u with tracker.role := .reference }
  | .reference => ({ u with tracker.role := s.tracker.edgeMode.roleAfterReference } : State).referenceEdge t

/-- A considered edge: accepted, or a glitch that is counted and changes nothing else (R31). -/
def State.considerEdge (s : State) (t : Time) : State :=
  if s.tracker.spacingOk t && s.tracker.windowOk t then s.acceptEdge t else s.count .glitch

/-- A transition of the MAINS input at the present Air Time (R30). While RESET is asserted the tracker is held at its reset
state and only the input's level follows. -/
def State.mainsTransition (s : State) (rising : Bool) : State :=
  if s.bus.resetAsserted then { s with tracker.mainsHigh := rising }
  else
    let u := { s with tracker.mainsHigh := rising, tracker.lastTransition := some s.air.airTime }
    if s.tracker.isEdge s.air.airTime && s.tracker.edgeMode.considers rising then u.considerEdge s.air.airTime else u

/-- MAINS_EDGE (R30). -/
def execMainsEdge (rising : Bool) (s : State) : Host.Outcome State Fault Refusal := answer (s.mainsTransition rising)

/-- The tracker expiry is armed and Air Time has reached it (R19). -/
def State.trackerExpiryDue (s : State) : Bool :=
  match s.tracker.expiry with
  | some t => reaches s.air.airTime t
  | none => false

/-- The tracker with a virtual reference edge supplied at r + P (R38, R39). -/
def Tracker.coastStep (tr : Tracker) (r : Time) (p count : Nat) : Tracker :=
  { tr with
    lockState := .coasting, ref := some (later r p), coastCount := count
    expiry := some (expiryTime (later r p) p), role := tr.edgeMode.roleAfterReference }

/-- The tracker entering LOST: r advanced, the expiry disarmed, the re-lock clear mark set (R39). -/
def Tracker.loseLock (tr : Tracker) (r : Time) (p count : Nat) : Tracker :=
  { tr with
    lockState := .lost, ref := some (later r p), coastCount := count, expiry := none, role := .reference
    relockMark := true }

/-- The lock expiry, when it is due in LOCKED (R38). -/
def State.takeLockExpiry (s : State) : State :=
  match s.tracker.lockState, s.trackerExpiryDue, s.tracker.ref, s.tracker.period with
  | .locked, true, some r, some p => ({ s with tracker := s.tracker.coastStep r p 1 } : State).referenceEvents
  | _, _, _, _ => s

/-- The coast expiry, when it is due in COASTING (R39). -/
def State.takeCoastExpiry (s : State) : State :=
  match s.tracker.lockState, s.trackerExpiryDue, s.tracker.ref, s.tracker.period with
  | .coasting, true, some r, some p =>
    if s.tracker.coastCount + 1 ≤ s.tracker.coastLimit then
      ({ s with tracker := s.tracker.coastStep r p (s.tracker.coastCount + 1) } : State).referenceEvents
    else
      { s.setFlag .lockLost with tracker := s.tracker.loseLock r p (s.tracker.coastCount + 1) }
  | _, _, _, _ => s

/-- LOCK_EXPIRY (R38); no effect while the lock expiry is not due (log entry 3). -/
def execLockExpiry (s : State) : Host.Outcome State Fault Refusal := answer s.takeLockExpiry

/-- COAST_EXPIRY (R39); no effect while the coast expiry is not due (log entry 3). -/
def execCoastExpiry (s : State) : Host.Outcome State Fault Refusal := answer s.takeCoastExpiry

end Sys2Proof.Machine
end

