-- ==== Sys2Proof/Machine/NeighbourSchedule.lean ====
section
/-! DEFINITION. The Neighbour Schedule's service of its requests (chapter 6): BEACON_UPDATE, MISS_EXPIRY, MISSED_BEACON,
NEIGHBOUR_CLEAR and NEIGHBOUR_SETTINGS. -/

namespace Sys2Proof.Machine

/-- The request in service leaves the head (R88). -/
def State.popSchedule (s : State) : State := { s with schedule.requests := s.schedule.requests.tail }

/-- The table with a slot changed. -/
def State.setSlot (s : State) (i : Fin 8) (e : Option Neighbour) : State :=
  { s with schedule.slots := s.schedule.slots.set i e }

/-- The miss expiry of an entry, as armed: anchor + I × 1,024 + tolerance (R95). -/
def Neighbour.armed (e : Neighbour) (tolerance : Nat) : Neighbour :=
  { e with expiry := later e.anchor (e.period + tolerance), taken := false }

/-- The miss expiry of an entry in a slot is taken: it joins the Schedule's requests (R96). -/
def State.sendMiss (s : State) (i : Fin 8) (e : Neighbour) : State :=
  (s.setSlot i (some { e with taken := true })).sendSchedule (.expiry i e.address)

/-- The miss expiry of a slot's entry is taken when Air Time has reached it (R19, R95), once for each arming (log entry
23). -/
def State.takeMiss (s : State) (i : Fin 8) : State :=
  match s.schedule.slots[i] with
  | some e => if reaches s.air.airTime e.expiry && !e.taken then s.sendMiss i e else s
  | none => s

/-- An entry put into a slot with its miss expiry armed (R95). An expiry that is not after Air Time at its arming is taken at
once (R19), one exactly 2^31 microseconds from Air Time included. -/
def State.armSlot (s : State) (i : Fin 8) (e : Neighbour) : State :=
  let a := e.armed s.schedule.settings.tolerance
  if after a.expiry s.air.airTime then s.setSlot i (some a) else s.sendMiss i a

/-- The slot whose entry has an address (R89). -/
def findAddress (slots : Vector (Option Neighbour) 8) (address : BitVec 48) : Option (Fin 8) :=
  (List.finRange 8).find? fun i =>
    match slots[i] with
    | some e => e.address == address
    | none => false

/-- The lowest-numbered FREE slot (R93). -/
def findFree (slots : Vector (Option Neighbour) 8) : Option (Fin 8) :=
  (List.finRange 8).find? fun i => slots[i].isNone

/-- Bn after an update: the update's airtime when it has one (R89). -/
def BeaconUpdate.airtimeOver (u : BeaconUpdate) (old : Nat) : Nat := u.airtime.getD old

/-- An entry re-anchored on an update (R90, R92). -/
def Neighbour.reanchored (e : Neighbour) (u : BeaconUpdate) : Neighbour :=
  { e with
    interval := u.interval, anchor := u.start, lastSeen := u.start, confidence := 1, missCount := 0
    misaligned := 0, airtime := u.airtimeOver e.airtime }

/-- The error of a beacon against the expected start (R91). -/
def Neighbour.error (e : Neighbour) (u : BeaconUpdate) : Int := sdiff u.start (later e.anchor e.period)

/-- An entry after a match (R91). -/
def Neighbour.afterMatch (e : Neighbour) (u : BeaconUpdate) : Neighbour :=
  { e with
    anchor := shifted (later e.anchor e.period) ((e.error u).tdiv 4)
    confidence := min 7 (e.confidence + 1), missCount := 0, misaligned := 0
    airtime := u.airtimeOver e.airtime, lastSeen := u.start }

/-- An entry after a misaligned beacon that does not re-anchor it (R92). -/
def Neighbour.afterMisaligned (e : Neighbour) (u : BeaconUpdate) : Neighbour :=
  { e with misaligned := e.misaligned + 1, confidence := e.confidence - 1, lastSeen := u.start }

/-- The entry a newcomer becomes (R93). -/
def BeaconUpdate.newcomer (u : BeaconUpdate) : Neighbour :=
  { address := u.address, interval := u.interval, anchor := u.start, airtime := u.airtime.getD 0
    confidence := 1, missCount := 0, misaligned := 0, lastSeen := u.start, expiry := u.start, taken := false }

/-- An update of a known neighbour (R90 to R92). -/
def State.updateEntry (s : State) (i : Fin 8) (e : Neighbour) (u : BeaconUpdate) : State :=
  if u.interval ≠ e.interval then (s.count .reAnchor).armSlot i (e.reanchored u)
  else if -(s.schedule.settings.tolerance : Int) ≤ e.error u ∧ e.error u ≤ s.schedule.settings.tolerance then
    s.armSlot i (e.afterMatch u)
  else if e.misaligned + 1 < 3 then s.setSlot i (some (e.afterMisaligned u))
  else (s.count .reAnchor).armSlot i (e.reanchored u)

/-! ### The victim of a full table (R94) -/

/-- The entries of a table with their slots. -/
def heldEntries (slots : Vector (Option Neighbour) 8) : List (Fin 8 × Neighbour) :=
  (List.finRange 8).filterMap fun i => slots[i].map fun e => (i, e)

/-- The entries of the lowest confidence. -/
def weakest (held : List (Fin 8 × Neighbour)) : List (Fin 8 × Neighbour) :=
  held.filter fun p => held.all fun q => decide (p.2.confidence ≤ q.2.confidence)

/-- Those last seen no later than any other, in slot order. -/
def earliestSeen (weak : List (Fin 8 × Neighbour)) : List (Fin 8 × Neighbour) :=
  weak.filter fun p => weak.all fun q => !before q.2.lastSeen p.2.lastSeen

/-- The victim: the lowest slot among those last seen earliest. Where no last-seen is the earliest, the spec states none, and
the place in the list is a free value (log entry 9). -/
def victim (slots : Vector (Option Neighbour) 8) : Option (Fin 8 × Neighbour) :=
  let weak := weakest (heldEntries slots)
  match earliestSeen weak with
  | p :: _ => some p
  | [] => weak[Config.unorderedVictim (weak.map fun p => (p.1.val, p.2.lastSeen)) % weak.length]?

/-- A newcomer with an interval in range (R93, R94). -/
def State.takeNewcomer (s : State) (u : BeaconUpdate) : State :=
  match findFree s.schedule.slots with
  | some i => s.armSlot i u.newcomer
  | none =>
    match victim s.schedule.slots with
    | none => s
    | some (i, e) =>
      if s.schedule.settings.protect ≤ e.confidence then (s.setFlag .neighbourFull).count .neighbourRefused
      else (s.count .neighbourReplaced).armSlot i u.newcomer

/-- The announced intervals in range (R89). -/
def intervalInRange (interval : Nat) : Bool := decide (16 ≤ interval ∧ interval ≤ 1023)

/-- The effect of a beacon update (R89). -/
def State.serveUpdate (s : State) (u : BeaconUpdate) : State :=
  if !intervalInRange u.interval then s.count .intervalRange
  else
    match findAddress s.schedule.slots u.address with
    | none => s.takeNewcomer u
    | some i =>
      match s.schedule.slots[i] with
      | some e => s.updateEntry i e u
      | none => s

/-! ### Missed beacons (R96) -/

/-- An entry after a missed beacon that leaves it in the table (R96). -/
def Neighbour.afterMiss (e : Neighbour) : Neighbour :=
  { e with
    missCount := e.missCount + 1, confidence := e.confidence - 2, anchor := later e.anchor e.period }

/-- A missed beacon of a slot's entry (R96). -/
def State.missBeacon (s : State) (i : Fin 8) (e : Neighbour) : State :=
  if e.confidence ≤ 1 then (s.setSlot i none).count .neighbourExpired else s.armSlot i e.afterMiss

/-- The effect of a miss expiry at its service: a missed beacon, or nothing when its check fails (R96). DESIGN CHOICE (log
entry 25): the slot holds the same entry when it holds the same transmitter address, so an entry created anew there for
that address, once Air Time has reached its own expiry, is missed by an expiry taken of the entry before it. DEDUCED (log
entry 26): an expiry set aside because Air Time has not reached it stays taken until the entry is armed again. -/
def State.serveExpiry (s : State) (i : Fin 8) (address : BitVec 48) : State :=
  match s.schedule.slots[i] with
  | some e =>
    if e.address = address ∧ reaches s.air.airTime e.expiry = true then s.missBeacon i e else s
  | none => s

/-! ### Clears and settings -/

/-- The effect of a clear request (R101). -/
def State.serveNeighbourClear (s : State) : State := { s with schedule.slots := Vector.replicate 8 none }

/-- A slot's entry re-armed with the tolerance held (R100). -/
def State.rearmSlot (s : State) (i : Fin 8) : State :=
  match s.schedule.slots[i] with
  | some e => s.armSlot i e
  | none => s

/-- The effect of a settings request; the expiries that are not after Air Time as re-armed are taken in slot order (R19, R100). -/
def State.serveNeighbourSettings (s : State) (n : NeighbourFields) : State :=
  let u := { s with schedule.settings := n }
  if n.tolerance = s.schedule.settings.tolerance then u else (List.finRange 8).foldl State.rearmSlot u

/-! ### The commands -/

/-- BEACON_UPDATE (R89): the update is served, and the fold that handed it on ends (R56). -/
def execBeaconUpdate (s : State) : Host.Outcome State Fault Refusal :=
  match s.schedule.requests with
  | .update u forFold :: _ => answer ((s.popSchedule.serveUpdate u).endFoldIf forFold)
  | _ => answer s

/-- MISS_EXPIRY (R95, R96); no effect while the slot's expiry is not due (log entry 3). -/
def execMissExpiry (slot : Fin 8) (s : State) : Host.Outcome State Fault Refusal := answer (s.takeMiss slot)

/-- MISSED_BEACON (R96). -/
def execMissedBeacon (s : State) : Host.Outcome State Fault Refusal :=
  match s.schedule.requests with
  | .expiry i address :: _ => answer (s.popSchedule.serveExpiry i address)
  | _ => answer s

/-- NEIGHBOUR_CLEAR (R101). -/
def execNeighbourClear (s : State) : Host.Outcome State Fault Refusal :=
  match s.schedule.requests with
  | .clear :: _ => answer s.popSchedule.serveNeighbourClear
  | _ => answer s

/-- NEIGHBOUR_SETTINGS (R100). -/
def execNeighbourSettings (s : State) : Host.Outcome State Fault Refusal :=
  match s.schedule.requests with
  | .settings n :: _ => answer (s.popSchedule.serveNeighbourSettings n)
  | _ => answer s

end Sys2Proof.Machine
end

