-- ==== Sys2Proof/Machine/RecordIntake.lean ====
section
/-! DEFINITION. The folds of Record Intake (chapter 4): SPECTRAL_FOLD, RECEIVE_FOLD and COMPLETION_FOLD. -/

namespace Sys2Proof.Machine

/-- The fold hands a request to the Map and waits for it (R56). -/
def State.handToMap (s : State) (f : Fold) (e : Evidence) : State :=
  { s.sendMap (.evidence e true) with intake.fold := some { f with handedOn := true } }

/-- The fold hands an update to the Schedule and waits for it (R56). -/
def State.handToSchedule (s : State) (f : Fold) (u : BeaconUpdate) : State :=
  { s.sendSchedule (.update u true) with intake.fold := some { f with handedOn := true } }

/-- Evidence that calls for one step in every slice of a set (R72). -/
def uniformEvidence (sp : Span) (set : SliceSet) (step : CellStep) : Evidence :=
  let at' (k : Nat) : Option CellStep := if set.has k then some step else none
  { span := sp, slice0 := at' 0, slice1 := at' 1, slice2 := at' 2, slice3 := at' 3 }

/-- Uniform evidence over the phase span of an interval, or the count of unphased evidence (R58). -/
def State.giveEvidence (s : State) (f : Fold) (a : Time) (n : Nat) (set : SliceSet) (step : CellStep) : State :=
  match f.context.phase with
  | none => (s.count .unphasedEvidence).endFold
  | some ph => s.handToMap f (uniformEvidence (ph.span a n) set step)

/-! ### Spectral entries -/

/-- The sequence comparison of a SPECTRAL fold (R60). -/
def State.compareSequence (s : State) (sequence : Nat) : State :=
  let u := { s with intake.lastSequence := some sequence }
  match s.intake.lastSequence with
  | none => u
  | some last => if sequence = (last + 1) % 65536 then u else u.count .spectralGap

/-- A slice of a sweep is a hit: loud and busy (R59). -/
def SliceReport.isHit (r : SliceReport) (m : MapFields) : Bool :=
  decide (m.hitLevel ≤ r.level) && decide (m.busyMinimum ≤ r.busy)

/-- The step a judged slice calls for (R59). -/
def SliceReport.step (r : SliceReport) (m : MapFields) : CellStep :=
  if r.isHit m then .rise m.riseScan else .fall m.fallScan

/-- The evidence of a sweep: the slices of its span, each judged from its report (R57, R59). -/
def sweepEvidence (sp : Span) (x : SpectralEntry) (m : MapFields) (set : SliceSet) : Evidence :=
  match set with
  | .all =>
    { span := sp, slice0 := some (x.report0.step m), slice1 := some (x.report1.step m)
      slice2 := some (x.report2.step m), slice3 := some (x.report3.step m) }
  | .low => { span := sp, slice0 := some (x.report0.step m), slice1 := some (x.report1.step m)
              slice2 := none, slice3 := none }
  | .high => { span := sp, slice0 := none, slice1 := none
               slice2 := some (x.report0.step m), slice3 := some (x.report1.step m) }

/-- An entry of another channel, or wider than the operating width (R59). -/
def SpectralEntry.offChannel (x : SpectralEntry) (r : RadioFields) : Bool :=
  r.channel != some x.channel || (x.span == .mhz40 && r.width == .mhz20)

/-- The steps of a SPECTRAL fold after the sequence comparison (R59). -/
def State.foldSweep (s : State) (f : Fold) (x : SpectralEntry) (voidMap : Bool) : State :=
  if voidMap then s.endFold
  else if x.offChannel f.context.radio then (s.count .offChannel).endFold
  else if !f.context.aligned then (s.count .unphasedEvidence).endFold
  else
    match f.context.phase with
    | none => (s.count .unphasedEvidence).endFold
    | some ph =>
      s.handToMap f
        (sweepEvidence (ph.span (x.start - f.context.offset) x.duration) x f.context.evidence
          (coverage x.span f.context.radio.width f.context.radio.secondary))

/-- The fold of a SPECTRAL entry (R59). -/
def State.foldSpectral (s : State) (f : Fold) (x : SpectralEntry) (voidMap : Bool) : State :=
  (s.compareSequence x.sequence).foldSweep f x voidMap

/-! ### Receive entries -/

/-- The airtime of a received frame, with what the fold took (R61). -/
def ReceiveEntry.airtime (e : ReceiveEntry) (c : FoldContext) : Option Nat :=
  airtimeOf c.radio.preamble c.rates e.length e.rate e.width

/-- The end of a received frame in Air Time (R61). -/
def ReceiveEntry.endTime (e : ReceiveEntry) (c : FoldContext) : Time := e.frameEnd - c.offset

/-- The step and enable of a kind that gives map evidence (R62). -/
def FrameKind.evidence (k : FrameKind) (m : MapFields) : Option (Bool × CellStep) :=
  match k with
  | .corrupted => some (m.corruptedOn, .rise m.riseCorrupt)
  | .ownData => some (m.cleanOn, .fall m.fallClean)
  | .ownOther => some (m.cleanOn, .fall m.fallClean)
  | .foreignBeacon => none
  | .foreignOther => none

/-- The update a foreign beacon gives the Schedule (R62). -/
def ReceiveEntry.update (e : ReceiveEntry) (c : FoldContext) : BeaconUpdate :=
  { address := e.address
    interval := e.interval
    start := earlier (e.endTime c) ((e.airtime c).getD 0)
    airtime := e.airtime c }

/-- The map evidence of a received frame (R62). -/
def State.foldFrameEvidence (s : State) (f : Fold) (e : ReceiveEntry) (voidMap : Bool) (enabled : Bool)
    (step : CellStep) : State :=
  match e.airtime f.context with
  | none => s.endFold
  | some n =>
    if enabled && !voidMap then
      s.giveEvidence f (earlier (e.endTime f.context) n) n
        (coverage e.width f.context.radio.width f.context.radio.secondary) step
    else s.endFold

/-- The fold of a RECEIVE entry after its alignment sample, by kind (R62). -/
def State.foldReceive (s : State) (f : Fold) (e : ReceiveEntry) (voidMap voidNeighbour : Bool) : State :=
  match e.kind, e.kind.evidence f.context.evidence with
  | _, some (enabled, step) => s.foldFrameEvidence f e voidMap enabled step
  | .foreignBeacon, none => if voidNeighbour then s.endFold else s.handToSchedule f (e.update f.context)
  | .foreignOther, none => (s.count .foreignOther).endFold
  | _, none => s.endFold

/-! ### Completion entries -/

/-- The step a COMPLETION entry calls for (R63). -/
def TxOutcome.step (o : TxOutcome) (m : MapFields) : CellStep :=
  match o with
  | .success => .fall m.fallSuccess
  | .failure => .rise m.riseFail

/-- The fold of a COMPLETION entry (R63). -/
def State.foldCompletion (s : State) (f : Fold) (c : CompletionEntry) (voidMap : Bool) : State :=
  if f.context.evidence.feedbackOn && !voidMap then
    s.giveEvidence f c.start c.airtime c.slices (c.outcome.step f.context.evidence)
  else s.endFold

/-! ### The commands -/

/-- The head entry whose fold has begun, with the fold, when it has not yet handed on a request (R56). -/
def State.foldInHand (s : State) : Option (Fold × Entry) :=
  match s.intake.fold, s.intake.fifo with
  | some f, e :: _ => if f.handedOn then none else some (f, e)
  | _, _ => none

/-- SPECTRAL_FOLD (R59): an idle processor begins the head entry (R56), and a SPECTRAL entry in hand is folded; no effect
while none is (log entry 3). -/
def execSpectralFold (s : State) : Host.Outcome State Fault Refusal :=
  match s.startFold.foldInHand with
  | some (f, { body := .spectral x, voidMap := v, .. }) => answer (s.startFold.foldSpectral f x v)
  | _ => answer s

/-- RECEIVE_FOLD (R62): an idle processor begins the head entry with its alignment sample (R56, R61), and a RECEIVE entry in
hand is folded; no effect while none is (log entry 3). -/
def execReceiveFold (s : State) : Host.Outcome State Fault Refusal :=
  match s.startFold.foldInHand with
  | some (f, { body := .receive x, voidMap := v, voidNeighbour := n }) => answer (s.startFold.foldReceive f x v n)
  | _ => answer s

/-- COMPLETION_FOLD (R63): an idle processor begins the head entry (R56), and a COMPLETION entry in hand is folded; no effect
while none is (log entry 3). -/
def execCompletionFold (s : State) : Host.Outcome State Fault Refusal :=
  match s.startFold.foldInHand with
  | some (f, { body := .completion x, voidMap := v, .. }) => answer (s.startFold.foldCompletion f x v)
  | _ => answer s

end Sys2Proof.Machine
end

