-- ==== Sys2Proof/Machine/Admission.lean ====
section
/-! DEFINITION. Transmit admission (chapter 7): the decision of one descriptor, as a function of the values fixed at the
beginning of its admission. -/

namespace Sys2Proof.Machine

/-- What an admission hands the Rewriter (R123). -/
structure Verdict where
  decision : Decision
  reason : Reason
  width : Width
  notBefore : Option Time
  plannedStart : Time
  airtime : Nat
  slices : SliceSet
  plannedEnd : Time
  deriving DecidableEq, Repr

/-- The start estimate: S0, or the not-before time when it is far (R108, R109). -/
inductive StartEstimate where
  | at (s0 : Time)
  | far (nb : Time)
  deriving DecidableEq, Repr

/-- The descriptor's fields (R106). -/
def AdmissionView.frame (v : AdmissionView) : Fingerprint := v.words.fingerprint

/-- The airtime at a width (R107). -/
def AdmissionView.airtimeAt (v : AdmissionView) (x : Width) : Option Nat :=
  airtimeOf v.radio.preamble v.rates v.frame.length v.frame.rate x

/-- The start after the access delay: now + E (R108). -/
def AdmissionView.soonest (v : AdmissionView) : Time := later v.now v.radio.access

/-- The lead beyond which a not-before time is far, in microseconds (R108). -/
def farLead : Int := 1000000

/-- The start estimate of an aligned admission (R108, R109). -/
def AdmissionView.startEstimate (v : AdmissionView) : StartEstimate :=
  if v.frame.notBefore = 0#32 then .at v.soonest
  else
    let nb := v.frame.notBefore - v.offset
    if farLead < sdiff nb v.now then .far nb
    else if sdiff nb v.now < v.radio.access then .at v.soonest
    else .at nb

/-- The planned start of a frame that is not deferred (R109). -/
def AdmissionView.undeferredStart (v : AdmissionView) : Time :=
  if v.aligned then
    match v.startEstimate with
    | .at s0 => s0
    | .far nb => nb
  else v.soonest

/-! ### Checking a start (R110, R111) -/

/-- The neighbour test of [start, start + n) (R110). -/
def AdmissionView.neighbourTest (v : AdmissionView) (start : Time) (n : Nat) : Bool :=
  !anyBlocks v.slots v.guards 0 v.now start n

/-- The slices of a width (R111). -/
def AdmissionView.slicesAt (v : AdmissionView) (x : Width) : SliceSet := coverage x v.radio.width v.radio.secondary

/-- The map test of [start, start + n) at a width; not made, and so passed, without phase (R111). -/
def AdmissionView.mapTest (v : AdmissionView) (start : Time) (n : Nat) (x : Width) : Bool :=
  match v.phase with
  | none => true
  | some ph =>
    !anyCell (ph.span start n) (v.slicesAt x) fun b k => decide (v.shaping.acceptLevel < scoreAt v.cells b k)

/-- The check of a start at a width (R111). -/
def AdmissionView.check (v : AdmissionView) (start : Time) (x : Width) : Bool :=
  match v.airtimeAt x with
  | none => false
  | some n => v.neighbourTest start n && v.mapTest start n x

/-- A descriptor that step 6 could narrow: 40 MHz, narrowable, with a 20 MHz rate (R115). -/
def AdmissionView.canNarrow (v : AdmissionView) : Bool :=
  v.frame.width == .mhz40 && v.frame.narrowable && v.rates.entry v.frame.rate .mhz20 != 0

/-! ### The search (R117 to R120): candidates are amounts after S0, in 1..H -/

/-- The bin-start candidates, in increasing order (R117). -/
def AdmissionView.binCandidates (v : AdmissionView) (s0 : Time) : List Nat :=
  match v.phase with
  | none => []
  | some ph =>
    let d := ph.phaseOf s0
    let h := v.shaping.holdLimit
    (List.range ((d + h) / ph.period + 1)).flatMap fun k =>
      (List.range 64).filterMap fun b =>
        let o := k * ph.period + binStart ph.period b
        if d < o ∧ o ≤ d + h then some (o - d) else none

/-- The window-end candidates, entry by entry (R118). -/
def AdmissionView.windowCandidates (v : AdmissionView) (s0 : Time) : List Nat :=
  (trackedEntries v.slots).flatMap fun e => e.endsAfter v.guards v.now s0 v.shaping.holdLimit

/-- A candidate put into an increasing list, once (R118). -/
def insertOnce (o : Nat) : List Nat → List Nat
  | [] => [o]
  | a :: rest => if o < a then o :: a :: rest else if o = a then a :: rest else a :: insertOnce o rest

/-- The candidate list before R119: both kinds merged in increasing order (R118). -/
def AdmissionView.mergedCandidates (v : AdmissionView) (s0 : Time) : List Nat :=
  (v.windowCandidates s0).foldl (fun l o => insertOnce o l) (v.binCandidates s0)

/-- A candidate whose radio time would be 0 (R119). -/
def AdmissionView.isZero (v : AdmissionView) (s0 : Time) (o : Nat) : Bool := later s0 o + v.offset == 0#32

/-- The candidate list: a candidate whose radio time would be 0 gives way to the next microsecond, if that lies within the
hold limit (R119). -/
def AdmissionView.candidates (v : AdmissionView) (s0 : Time) : List Nat :=
  let l := v.mergedCandidates s0
  let moved := (l.filter (v.isZero s0)).filterMap fun o => if o + 1 ≤ v.shaping.holdLimit then some (o + 1) else none
  moved.foldl (fun l o => insertOnce o l) (l.filter fun o => !v.isZero s0 o)

/-- A candidate tried at the requested width and then, where the frame can be narrowed, at 20 MHz (R120). -/
def AdmissionView.tryAt (v : AdmissionView) (s0 : Time) (o : Nat) : Option (Decision × Time) :=
  if v.check (later s0 o) v.frame.width then some (.defer, later s0 o)
  else if v.canNarrow && v.check (later s0 o) .mhz20 then some (.narrowDefer, later s0 o)
  else none

/-- The search: the first candidate that succeeds (R120). -/
def AdmissionView.search (v : AdmissionView) (s0 : Time) : Option (Decision × Time) :=
  (v.candidates s0).findSome? (v.tryAt s0)

/-! ### The ladder (section 7.5) -/

/-- The relief is reached (R116). -/
def AdmissionView.reliefReached (v : AdmissionView) : Bool :=
  v.shaping.reliefCount != 0 && decide (v.shaping.reliefCount ≤ v.relief)

/-- The outcome of the ladder: the decision, its reason, and the planned start (R112 to R116, R120). -/
structure Choice where
  decision : Decision
  reason : Reason
  start : Time
  deriving DecidableEq, Repr

/-- Steps 5 to 9, from the start estimate (R114 to R116). -/
def AdmissionView.judge (v : AdmissionView) (s0 : Time) : Choice :=
  if v.check s0 v.frame.width then { decision := .pass, reason := .clear, start := s0 }
  else if v.canNarrow && v.check s0 .mhz20 then { decision := .narrow, reason := .shaped, start := s0 }
  else if v.frame.deferrable && v.shaping.holdLimit != 0 then
    if v.reliefReached then { decision := .pass, reason := .relief, start := s0 }
    else
      match v.search s0 with
      | some (d, t) => { decision := d, reason := .shaped, start := t }
      | none => { decision := .pass, reason := .nowindow, start := s0 }
  else { decision := .pass, reason := .nowindow, start := s0 }

/-- The nine steps in order (section 7.5). -/
def AdmissionView.ladder (v : AdmissionView) : Choice :=
  if v.frame.pinned then { decision := .pass, reason := .pinned, start := v.undeferredStart }
  else if !v.aligned then { decision := .pass, reason := .unaligned, start := v.undeferredStart }
  else if (v.airtimeAt v.frame.width).isNone then
    { decision := .pass, reason := .badfield, start := v.undeferredStart }
  else
    match v.startEstimate with
    | .far nb => { decision := .pass, reason := .far, start := nb }
    | .at s0 => v.judge s0

/-- A decision that narrows. -/
def Decision.narrows (d : Decision) : Bool :=
  match d with
  | .narrow => true
  | .narrowDefer => true
  | .pass => false
  | .defer => false

/-- A decision that defers (R121). -/
def Decision.defers (d : Decision) : Bool :=
  match d with
  | .defer => true
  | .narrowDefer => true
  | .pass => false
  | .narrow => false

/-- An Air Time converted to radio time for a not-before field, where 0 is given as 1 (R26). -/
def notBeforeOf (offset : Word) (t : Time) : Time := if t + offset = 0#32 then 1#32 else t + offset

/-- The width delivered (R123). -/
def AdmissionView.deliveredWidth (v : AdmissionView) (d : Decision) : Width :=
  if d.narrows then .mhz20 else v.frame.width

/-- The airtime at the width delivered, or 0 when it is unavailable (R123). -/
def AdmissionView.deliveredAirtime (v : AdmissionView) (d : Decision) : Nat :=
  (v.airtimeAt (v.deliveredWidth d)).getD 0

/-- The result of an admission (R123). -/
def AdmissionView.verdict (v : AdmissionView) : Verdict :=
  let c := v.ladder
  { decision := c.decision
    reason := c.reason
    width := v.deliveredWidth c.decision
    notBefore := if c.decision.defers then some (notBeforeOf v.offset c.start) else none
    plannedStart := c.start
    airtime := v.deliveredAirtime c.decision
    slices := v.slicesAt (v.deliveredWidth c.decision)
    plannedEnd := later c.start (v.deliveredAirtime c.decision) }

/-- The relief counter after a decision (R121). -/
def reliefAfter (d : Decision) (relief : Nat) : Nat := if d.defers then min 15 (relief + 1) else 0

end Sys2Proof.Machine
end

