-- ==== Sys2Proof/Machine/DescriptorRewriter.lean ====
section
/-! DEFINITION. The Descriptor Rewriter (chapter 8): the pending transmit list, the delivery of held descriptors,
completions and abandonments; ADMISSION_RESULT and STALE_EXPIRY. -/

namespace Sys2Proof.Machine

/-! ### The pending transmit list -/

/-- The entry for a descriptor index (R128). -/
def State.findEntry (s : State) (index : Nat) : Option PendingEntry :=
  s.rewriter.entries.find? fun e => e.index == index

/-- The list without the entry for an index, its stale expiry disarmed with it (R128). -/
def State.removeEntry (s : State) (index : Nat) : State :=
  { s with rewriter.entries := s.rewriter.entries.filter fun e => e.index != index }

/-- The descriptor words delivered under a decision (R133). -/
def rewrite (d : Decision) (notBefore : Option Time) (w : Words8) : Words8 :=
  { w with
    w1 := if d.narrows then withNarrowWidth w.w1 else w.w1
    w2 := if d.defers then notBefore.getD w.w2 else w.w2 }

/-- Words delivered upstream (R2). -/
def State.deliver (s : State) (ws : List Word) : State := { s with bus.uPort := s.bus.uPort ++ ws }

/-- The values an admission fixes at its beginning (R105). -/
def State.beginView (s : State) (index : Nat) (words : Words8) (now : Time) : AdmissionView :=
  { index := index, words := words, now := now, offset := s.air.offset, aligned := s.air.aligned
    phase := s.tracker.phase, cells := s.map.cells, slots := s.schedule.slots, guards := s.schedule.settings
    radio := s.policy.radio, rates := s.policy.rates, shaping := s.policy.shaping, relief := s.admission.relief }

/-- An admission begins (R105). -/
def State.beginAdmission (s : State) (index : Nat) (words : Words8) (now : Time) : State :=
  { s with admission.inProgress := some (s.beginView index words now) }

/-- A descriptor sampled for the Rewriter arrives: an admission, a repeated delivery, or a supersession and then an
admission (R129 to R131). -/
def State.reachRewriter (s : State) (index : Nat) (words : Words8) (now : Time) : State :=
  match s.findEntry index with
  | none => s.beginAdmission index words now
  | some e =>
    if e.fingerprint = words.fingerprint then
      (s.count .repeated).deliver (rewrite e.decision e.notBefore words).toList
    else ((s.removeEntry index).count .superseded).beginAdmission index words now

/-- A piece that has returned, once nothing is held before it: delivered as stored, or handed to the Rewriter (R8). -/
def State.passOn (s : State) (p : Piece) : State :=
  match p with
  | .stored ws => s.deliver ws
  | .sampled index words time => s.reachRewriter index words time

/-- The pieces passed on in address order until one begins an admission, with those that then wait behind it (R8). -/
def State.passOnAll (s : State) : List Piece → State × List Piece
  | [] => (s, [])
  | p :: rest => if s.admission.inProgress.isSome then (s, p :: rest) else (s.passOn p).passOnAll rest

/-- The TX-DMA read in service with what is left of it; it ends when its last word has been delivered (R2). -/
def State.keepReading (s : State) (toReturn : List Segment) (behind : List Piece) : State :=
  if toReturn.isEmpty && behind.isEmpty && s.admission.inProgress.isNone then { s with bus.service := none }
  else { s with bus.service := some (.descriptors toReturn behind) }

/-- The pieces of a TX-DMA read passed on, and the read continued or ended. -/
def State.continueRead (s : State) (toReturn : List Segment) (pieces : List Piece) : State :=
  (s.passOnAll pieces).1.keepReading toReturn (s.passOnAll pieces).2

/-! ### Opening and removing entries -/

/-- Room for a new entry: a full list evicts its head (R134). -/
def State.makeRoom (s : State) : State :=
  if Config.pendingCapacity ≤ s.rewriter.entries.length then
    (({ s with rewriter.entries := s.rewriter.entries.tail } : State).setFlag .pendingEvicted).count .evicted
  else s

/-- The entry an admission opens (R128, R132), with its stale expiry (R137). -/
def AdmissionView.entry (v : AdmissionView) (timeoutMs : Nat) : PendingEntry :=
  let r := v.verdict
  { index := v.index, fingerprint := v.frame, decision := r.decision, reason := r.reason, width := r.width
    notBefore := r.notBefore, plannedStart := r.plannedStart, airtime := r.airtime, slices := r.slices
    plannedEnd := r.plannedEnd, expiry := later r.plannedEnd (timeoutMs * 1000) }

/-- An entry opened at the tail. A stale expiry that is not after Air Time is taken at once, and the entry is removed as
soon as it opens (R19, R137): also one that lies exactly 2^31 microseconds ahead, which the signed comparison puts
before Air Time (R18). -/
def State.openEntry (s : State) (e : PendingEntry) : State :=
  let u := s.makeRoom
  if !after e.expiry u.air.airTime then u.count .stale
  else { u with rewriter.entries := u.rewriter.entries ++ [e] }

/-- The end of an admission: counted, the relief counter updated, the entry opened, the rewritten words delivered, and
what waits behind them passed on (R121, R125, R132, R133). DESIGN CHOICE (log entry 27): a second descriptor that
waits behind this one reaches the Rewriter, and its admission begins, in this same step; R8 says only that the two are
dealt with one after the other. -/
def State.endAdmission (s : State) (v : AdmissionView) : State :=
  let r := v.verdict
  let counted := (s.count r.decision.counter).count r.reason.counter
  let updated := { counted with
    admission := { relief := reliefAfter r.decision s.admission.relief, inProgress := none } }
  let opened := updated.openEntry (v.entry s.policy.shaping.timeoutMs)
  let delivered := opened.deliver (rewrite r.decision r.notBefore v.words).toList
  match s.bus.service with
  | some (.descriptors toReturn behind) => delivered.continueRead toReturn behind
  | _ => delivered

/-- ADMISSION_RESULT (R132); no effect while no admission is in progress (log entry 3). -/
def execAdmissionResult (s : State) : Host.Outcome State Fault Refusal :=
  match s.admission.inProgress with
  | some v => answer (s.endAdmission v)
  | none => answer s

/-- An entry whose stale expiry Air Time has reached (R137). -/
def PendingEntry.due (e : PendingEntry) (now : Time) : Bool := reaches now e.expiry

/-- The stale expiry of the entry for an index, when it is due (R137). -/
def State.takeStale (s : State) (index : Nat) : State :=
  match s.findEntry index with
  | some e => if e.due s.air.airTime then (s.removeEntry index).count .stale else s
  | none => s

/-- STALE_EXPIRY (R137); no effect while the entry's expiry is not due (log entry 3). -/
def execStaleExpiry (index : Nat) (s : State) : Host.Outcome State Fault Refusal := answer (s.takeStale index)

/-! ### Abandonment (R135) -/

/-- A possible abandonment of a descriptor (R135). -/
def State.abandon (s : State) (index : Nat) : State :=
  match s.findEntry index with
  | some _ => (s.removeEntry index).count .abandoned
  | none => s

/-! ### Completions (R136, R141 to R143) -/

/-- The evidence a completion calls for, by its result and retries (R142). -/
def completionOutcome (result retries : Nat) : Option TxOutcome :=
  match result with
  | 0 => if retries = 0 then some .success else if retries = 1 then none else some .failure
  | 1 => some .failure
  | _ => none

/-- The actual start of a matched completion (R143). -/
def State.actualStart (s : State) (e : PendingEntry) (w5 : Word) : Time :=
  if w5 ≠ 0#32 ∧ s.air.aligned = true then w5 - s.air.offset else e.plannedStart

/-- The completion evidence of a matched entry, pushed to Record Intake (R142). -/
def State.pushEvidence (s : State) (e : PendingEntry) (w4 w5 : Word) : State :=
  match completionOutcome (resultOf w4) (retriesOf w4) with
  | some o =>
    if e.airtime = 0 then s
    else s.arrive (.completion { outcome := o, start := s.actualStart e w5, airtime := e.airtime, slices := e.slices })
  | none => s

/-- The shaping code the Rewriter returns for a completion (R136, R141). -/
def State.completionCode (s : State) (index : Nat) : BitVec 8 :=
  match s.findEntry index with
  | some e => shapingCode e.decision e.reason
  | none => shapingCode .pass .untracked

/-- A completion handled: matched and closed, or untracked (R136, R141). -/
def State.complete (s : State) (index : Nat) (w4 w5 : Word) : State :=
  match s.findEntry index with
  | some e => ((s.removeEntry index).count .matched).pushEvidence e w4 w5
  | none => s.count .untracked

end Sys2Proof.Machine
end

