-- ==== Sys2Proof/Machine/MapService.lean ====
section
/-! DEFINITION. The Occupancy Map's service of its requests (chapter 5): EVIDENCE, AGE, MAP_CLEAR, MAP_SETTINGS and
SNAPSHOT. Each command ends the service of the request at the head of the queue, when it is of the command's kind; until then
reads see the map as that request found it (R71). -/

namespace Sys2Proof.Machine

/-- The number of cells at or above a hot level (R81). -/
def countHot (cells : Vector Nat 256) (hotLevel : Nat) : Nat := cells.toList.countP fun c => decide (hotLevel ≤ c)

/-- The recount at the end of a request; a rise from 0 sets MAP_HOT (R81, R82). -/
def State.recount (s : State) : State :=
  let n := countHot s.map.cells s.map.settings.hotLevel
  let u := { s with map.hotCount := n }
  if s.map.hotCount = 0 ∧ 0 < n then u.setFlag .mapHot else u

/-- The request in service leaves the head, and the oldest waiting request comes into service (R70). -/
def State.popMap (s : State) : State := { s with map.requests := s.map.requests.tail }

/-- The step a request calls for in a slice (R72). -/
def Evidence.stepIn (e : Evidence) (slice : Nat) : Option CellStep :=
  match slice with
  | 0 => e.slice0
  | 1 => e.slice1
  | 2 => e.slice2
  | 3 => e.slice3
  | _ => none

/-- The step a request calls for in a cell, by its number (R72). -/
def Evidence.stepAt (e : Evidence) (cell : Nat) : Option CellStep :=
  if e.span.has (cell / 4) then e.stepIn (cell % 4) else none

/-- A score after a cell's step, if it has one (R72). -/
def stepScore (step : Option CellStep) (score : Nat) : Nat :=
  match step with
  | some c => c.apply score
  | none => score

/-- The cells after an evidence request (R72). -/
def applyEvidence (e : Evidence) (cells : Vector Nat 256) : Vector Nat 256 :=
  Vector.ofFn fun i => stepScore (e.stepAt i.val) cells[i]

/-- The effect of an evidence request (R72, R81). -/
def State.serveEvidence (s : State) (e : Evidence) : State :=
  ({ s with map.cells := applyEvidence e s.map.cells } : State).recount

/-- The ageing pass: every cell falls at the age shift and the cycle-age count becomes 0 (R74). -/
def State.ageingPass (s : State) : State :=
  { s with
    map.cells := s.map.cells.map fun c => fallScore c s.map.settings.ageShift
    map.cycleAge := 0 }

/-- The effect of an age request (R74, R81). -/
def State.serveAge (s : State) : State :=
  if s.map.settings.agePeriod = 0 then ({ s with map.cycleAge := 0 } : State).recount
  else if s.map.cycleAge + 1 < s.map.settings.agePeriod then
    ({ s with map.cycleAge := s.map.cycleAge + 1 } : State).recount
  else s.ageingPass.recount

/-- The effect of a clear request; the Map then sends itself a snapshot request (R77). -/
def State.serveClear (s : State) : State :=
  ({ s with map.cells := Vector.replicate 256 0, map.cycleAge := 0, map.hotCount := 0 } : State).sendMap .snapshot

/-- The effect of a settings request (R76, R81). -/
def State.serveSettings (s : State) (m : MapSettings) : State :=
  ({ s with
    map.settings := m
    map.cycleAge := if m.agePeriod = s.map.settings.agePeriod then s.map.cycleAge else 0 } : State).recount

/-- The effect of a snapshot request (R79). -/
def State.serveSnapshot (s : State) : State :=
  { s with map.snapshot := s.map.cells, map.sequence := (s.map.sequence + 1) % 256 }

/-- A report read is open (R15). -/
def State.reportOpen (s : State) : Bool :=
  match s.bus.service with
  | some (.report _) => true
  | _ => false

/-- The snapshot request in service makes its copy, unless a report read is open (R80). -/
def State.takeSnapshot (s : State) : State :=
  match s.map.requests, s.reportOpen with
  | .snapshot :: _, false => s.popMap.serveSnapshot
  | _, _ => s

/-- EVIDENCE (R72): the request is served, and the fold that handed it on ends (R56). -/
def execEvidence (s : State) : Host.Outcome State Fault Refusal :=
  match s.map.requests with
  | .evidence e forFold :: _ => answer ((s.popMap.serveEvidence e).endFoldIf forFold)
  | _ => answer s

/-- AGE (R74). -/
def execAge (s : State) : Host.Outcome State Fault Refusal :=
  match s.map.requests with
  | .age :: _ => answer s.popMap.serveAge
  | _ => answer s

/-- MAP_CLEAR (R77). -/
def execMapClear (s : State) : Host.Outcome State Fault Refusal :=
  match s.map.requests with
  | .clear :: _ => answer s.popMap.serveClear
  | _ => answer s

/-- MAP_SETTINGS (R76). -/
def execMapSettings (s : State) : Host.Outcome State Fault Refusal :=
  match s.map.requests with
  | .settings m :: _ => answer (s.popMap.serveSettings m)
  | _ => answer s

/-- SNAPSHOT (R79, R80). -/
def execSnapshot (s : State) : Host.Outcome State Fault Refusal := answer s.takeSnapshot

end Sys2Proof.Machine
end

