-- ==== Sys2Proof/Machine/PolicyUnit.lean ====
section
/-! DEFINITION. The Policy Unit (chapter 9): the judgement of control records and the effects of the accepted ones. -/

namespace Sys2Proof.Machine

/-! ### Accepting and refusing (R147, R148) -/

/-- The code of a rejection reason (R147). -/
def RejectReason.code (r : RejectReason) : Nat :=
  match r with
  | .none => 0
  | .unknownKind => 1
  | .windowAlign => 2
  | .windowZero => 3
  | .windowCount => 4
  | .windowRange => 5
  | .windowOverlap => 6
  | .channel => 7
  | .width => 8
  | .secondary => 9
  | .keepaliveValue => 10
  | .notReady => 11

/-- A record refused (R147). -/
def State.refuse (s : State) (w : Words8) (reason : RejectReason) : State :=
  ({ s.setFlag .policyRejected with
    policy.lastRejectedSequence := w.sequence, policy.lastRejectedReason := reason } : State).count .reject

/-- A record accepted: its kind and sequence recorded, POLICY_ACCEPTED set (R148). -/
def State.accept (s : State) (w : Words8) : State :=
  { s.setFlag .policyAccepted with
    policy.lastAcceptedKind := w.kindCode, policy.lastAcceptedSequence := w.sequence }

/-- The clamp counter counted once for a record when a field of it was clamped (R148). -/
def State.countClamp (s : State) (clamped : Bool) : State := if clamped then s.count .clamp else s

/-- A configuration kind added to the received-kinds set; the set completed takes the part from UNCONFIGURED to STANDBY
(R148, R156). -/
def State.receive (s : State) (kind : Nat) : State :=
  let received := s.policy.received ||| (1#8 <<< (kind - 1))
  { s with
    policy.received := received
    policy.mode := if s.policy.mode = .unconfigured ∧ received = 0xFF#8 then .standby else s.policy.mode }

/-- A configuration record accepted (R148). -/
def State.acceptConfiguration (s : State) (w : Words8) (kind : Nat) (clamped : Bool) : State :=
  ((s.countClamp clamped).accept w).receive kind

/-! ### WINDOWS (R149) -/

/-- Each base is a multiple of its element size. -/
def Windows.aligned (w : Windows) : Bool :=
  w.tx.base % descriptorSize == 0 && w.rx.base % receiveSize == 0 && w.spectral.base % spectralSize == 0 &&
    w.report % reportSize == 0

/-- No count is 0. -/
def Windows.noneEmpty (w : Windows) : Bool := w.tx.count != 0 && w.rx.count != 0 && w.spectral.count != 0

/-- The counts lie within their limits. -/
def Windows.countsOk (w : Windows) : Bool :=
  decide (w.tx.count ≤ 1024) && decide (w.rx.count ≤ 1024) && decide (w.spectral.count ≤ 256)

/-- The four address ranges: base and limit. -/
def Windows.ranges (w : Windows) : List (Nat × Nat) :=
  [(w.tx.base, w.tx.limit descriptorSize), (w.rx.base, w.rx.limit receiveSize),
   (w.spectral.base, w.spectral.limit spectralSize), (w.report, w.report + reportSize)]

/-- Every window ends at or below the 16 MiB limit. -/
def Windows.inRange (w : Windows) : Bool := w.ranges.all fun r => decide (r.2 ≤ Config.addressLimit)

/-- Two ranges share no address. -/
def rangesApart (a b : Nat × Nat) : Bool := decide (a.2 ≤ b.1) || decide (b.2 ≤ a.1)

/-- No two windows share an address. -/
def Windows.apart (w : Windows) : Bool := decide (w.ranges.Pairwise fun a b => rangesApart a b = true)

/-- The first check of a WINDOWS record that fails, in the order of R149. -/
def Windows.fault (w : Windows) : Option RejectReason :=
  if !w.aligned then some .windowAlign
  else if !w.noneEmpty then some .windowZero
  else if !w.countsOk then some .windowCount
  else if !w.inRange then some .windowRange
  else if !w.apart then some .windowOverlap
  else none

/-- A WINDOWS record judged (R149). -/
def State.judgeWindows (s : State) (w : Words8) : State :=
  match w.windowsCarried.fault with
  | some reason => s.refuse w reason
  | none =>
    ({ s.acceptConfiguration w 1 false with bus.windows := some w.windowsCarried } : State).emptyPending

/-! ### RADIO (R150) -/

/-- The RADIO fields a record carries, T_pre held at 16 or more, or the first check that fails (R150). -/
def radioCarried (w : Words8) : Except RejectReason RadioFields :=
  let channel := field w.w1 16 8
  if channel < 1 ∨ 14 < channel then .error .channel
  else
    match widthOfNumber (field w.w1 24 8), secondaryOfCode (field w.w2 0 2) with
    | none, _ => .error .width
    | some _, none => .error .secondary
    | some .mhz40, some .none => .error .secondary
    | some .mhz20, some .above => .error .secondary
    | some .mhz20, some .below => .error .secondary
    | some width, some position =>
      .ok { channel := some channel, width := width, secondary := position, preamble := max 16 (field w.w2 8 8)
            latency := field w.w2 16 8, access := field w.w3 0 12 }

/-- The state the old channel, width or secondary position made meaningless, cleared or emptied (R150): the FIFO with a
change of channel; map, neighbours and pending list with any change. -/
def State.radioChange (s : State) (old new : RadioFields) : State :=
  if old.channel ≠ new.channel then ((s.emptyFifo.sendMapClear).sendNeighbourClear).emptyPending
  else if old.width ≠ new.width ∨ old.secondary ≠ new.secondary then
    ((s.sendMapClear).sendNeighbourClear).emptyPending
  else s

/-- A RADIO record judged (R150). -/
def State.judgeRadio (s : State) (w : Words8) : State :=
  match radioCarried w with
  | .error reason => s.refuse w reason
  | .ok new =>
    ({ s.acceptConfiguration w 2 (decide (field w.w2 8 8 < 16)) with policy.radio := new } : State).radioChange
      s.policy.radio new

/-! ### The other configuration kinds -/

/-- A RATES-LOW or RATES-HIGH record judged (R151). -/
def State.judgeRates (s : State) (w : Words8) (kind base : Nat) : State :=
  { s.acceptConfiguration w kind false with policy.rates := s.policy.rates.replace base w }

/-- The tracker restarted by a change of edge mode (R49, R50). -/
def Tracker.restarted (t : Tracker) (m : EdgeMode) : Tracker :=
  { t with
    edgeMode := m, lockState := if m = .off then .off else .seeking, period := none, ref := none
    lastAccepted := none, role := .reference, lockCount := 0, coastCount := 0, relockMark := false
    expiry := none }

/-- The tracker handed an edge mode and a coast limit (R49). -/
def State.trackerSettings (s : State) (m : EdgeMode) (limit : Nat) : State :=
  if m = s.tracker.edgeMode then { s with tracker.coastLimit := limit }
  else { s.sendMapClear with tracker := { s.tracker.restarted m with coastLimit := limit } }

/-- A MAINS record judged (R152). -/
def State.judgeMains (s : State) (w : Words8) : State :=
  let limit := field w.w2 8 4
  let mode := edgeModeOfCode (field w.w2 0 2)
  ({ s.acceptConfiguration w 5 (limit == 0) with
    policy.edgeMode := mode, policy.coastLimit := atLeastOne limit } : State).trackerSettings mode (atLeastOne limit)

/-- The MAP fields as clamped (R153). -/
def MapFields.clamped (m : MapFields) : MapFields :=
  { m with
    riseScan := atLeastOne m.riseScan, fallScan := atLeastOne m.fallScan
    riseCorrupt := atLeastOne m.riseCorrupt, fallClean := atLeastOne m.fallClean
    riseFail := atLeastOne m.riseFail, fallSuccess := atLeastOne m.fallSuccess
    settings := { m.settings with
      hotLevel := atLeastOne m.settings.hotLevel, ageShift := atLeastOne m.settings.ageShift } }

/-- A MAP record judged (R153). -/
def State.judgeMap (s : State) (w : Words8) : State :=
  let carried := w.mapCarried
  ({ s.acceptConfiguration w 6 (carried.clamped != carried) with policy.map := carried.clamped } : State).sendMap
    (.settings carried.clamped.settings)

/-- The NEIGHBOUR fields as clamped (R154). -/
def NeighbourFields.clamped (n : NeighbourFields) : NeighbourFields :=
  { n with tolerance := max 64 n.tolerance, protect := atLeastOne n.protect }

/-- A NEIGHBOUR record judged (R154). -/
def State.judgeNeighbour (s : State) (w : Words8) : State :=
  let carried := w.neighbourCarried
  ({ s.acceptConfiguration w 7 (carried.clamped != carried) with
    policy.neighbour := carried.clamped } : State).sendSchedule (.settings carried.clamped)

/-- A SHAPING record judged (R155); the Report Unit takes the WIN fields at once (R172). -/
def State.judgeShaping (s : State) (w : Words8) : State :=
  let carried := w.shapingCarried
  { s.acceptConfiguration w 8 (carried.timeoutMs == 0) with
    policy.shaping := { carried with timeoutMs := atLeastOne carried.timeoutMs }
    policy.win := w.winCarried
    report.win := w.winCarried }

/-! ### KEEPALIVE (R157) -/

/-- ACTIVE entered or kept, with the counter loaded; the relief counter is 0 on entry (R156, R157). -/
def State.refreshKeepalive (s : State) (period : Nat) : State :=
  let loaded := { s with policy.keepaliveCounter := period }
  match s.policy.mode with
  | .standby => { loaded with policy.mode := .active, admission.relief := 0 }
  | .active => loaded
  | .unconfigured => s

/-- ACTIVE left for STANDBY; nothing in the other modes (R157). -/
def State.releaseKeepalive (s : State) : State :=
  match s.policy.mode with
  | .active => { s with policy.mode := .standby, policy.keepaliveCounter := 0 }
  | .standby => s
  | .unconfigured => s

/-- A KEEPALIVE record judged: the value first, the mode second (R157). -/
def State.judgeKeepalive (s : State) (w : Words8) : State :=
  let value := w.w2.extractLsb' 0 16
  let carried := field w.w2 16 8
  let accepted : State :=
    { (s.countClamp (carried == 0)).accept w with policy.keepalivePeriod := atLeastOne carried }
  if value = Config.refreshValue then
    if s.policy.mode = .unconfigured then s.refuse w .notReady
    else accepted.refreshKeepalive (atLeastOne carried)
  else if value = Config.releaseValue then accepted.releaseKeepalive
  else s.refuse w .keepaliveValue

/-! ### ACKNOWLEDGE, CLEAR and RESTART -/

/-- An ACKNOWLEDGE record judged: the acceptance recorded first, then the masked flags cleared and the enables replaced
(R157, R167). -/
def State.judgeAcknowledge (s : State) (w : Words8) : State :=
  let u := s.accept w
  { u with
    report.flags := u.report.flags &&& ~~~(w.w2.extractLsb' 0 16)
    report.enables := w.w2.extractLsb' 16 16 }

/-- An effect applied when a bit of a record asks for it. -/
def State.applyIf (s : State) (b : Bool) (f : State → State) : State := if b then f s else s

/-- A CLEAR record judged: each bit acts on its own (R160). -/
def State.judgeClear (s : State) (w : Words8) : State :=
  (((s.accept w).applyIf (flagBit w.w2 0) State.sendMapClear).applyIf (flagBit w.w2 1)
    State.sendNeighbourClear).applyIf (flagBit w.w2 2) State.clearCounters

/-- Every block at its pin-reset state, but for Air Time, the offset, the alignment state and the outlier run (R160), the
MAINS input and the ports. -/
def State.restarted (s : State) : State :=
  { s with
    tracker := { Tracker.reset with
      mainsHigh := s.tracker.mainsHigh, lastTransition := s.tracker.lastTransition }
    intake := .reset, map := .reset, schedule := .reset, admission := .reset, rewriter := .reset
    policy := .reset, report := .reset, bus.windows := none }

/-- A RESTART record judged: the resets, then the acceptance recorded (R160). -/
def State.judgeRestart (s : State) (w : Words8) : State := s.restarted.accept w

/-! ### The judgement (R146) -/

/-- A control record whose sum is 0, judged by its kind code (R146). -/
def State.judgeRecord (s : State) (w : Words8) : State :=
  match w.kindCode.toNat with
  | 1 => s.judgeWindows w
  | 2 => s.judgeRadio w
  | 3 => s.judgeRates w 3 0
  | 4 => s.judgeRates w 4 8
  | 5 => s.judgeMains w
  | 6 => s.judgeMap w
  | 7 => s.judgeNeighbour w
  | 8 => s.judgeShaping w
  | 9 => s.judgeKeepalive w
  | 10 => s.judgeAcknowledge w
  | 11 => s.judgeClear w
  | 12 => s.judgeRestart w
  | _ => s.refuse w .unknownKind

end Sys2Proof.Machine
end

