-- ==== Sys2Proof/Machine/Reporting.lean ====
section
/-! DEFINITION. The report words (R163 to R165, section 11.6). -/

namespace Sys2Proof.Machine

/-- The code of a mode in report word 1. -/
def Mode.code (m : Mode) : Nat :=
  match m with
  | .unconfigured => 0
  | .standby => 1
  | .active => 2

/-- The code of a lock state in report word 1. -/
def LockState.code (l : LockState) : Nat :=
  match l with
  | .off => 0
  | .seeking => 1
  | .locking => 2
  | .locked => 3
  | .coasting => 4
  | .lost => 5

/-- The code of an edge mode in report word 1, as in MAINS. -/
def EdgeMode.code (m : EdgeMode) : Nat :=
  match m with
  | .off => 0
  | .rising => 1
  | .falling => 2
  | .both => 3

/-- The number of slots that hold an entry (R87). -/
def Schedule.count (s : Schedule) : Nat := s.slots.toList.countP Option.isSome

/-- Report word 1: mode, lock state, alignment, edge mode. -/
def State.word1 (s : State) : Word :=
  place s.policy.mode.code 0 2 ||| place s.tracker.lockState.code 8 3 ||| placeFlag s.air.aligned 16 |||
    place s.tracker.edgeMode.code 24 2

/-- Report word 6: the flags and the enables. -/
def State.word6 (s : State) : Word := s.report.enables ++ s.report.flags

/-- Report word 7: FIFO occupancy and half-full mark, pending count, neighbour count, hot count. -/
def State.word7 (s : State) : Word :=
  place s.intake.fifo.length 0 4 ||| placeFlag (decide (4 ≤ s.intake.fifo.length)) 4 |||
    place s.rewriter.entries.length 8 5 ||| place s.schedule.count 16 4 ||| place s.map.hotCount 20 9

/-- Report word 8: snapshot sequence, last accepted and last rejected records. -/
def State.word8 (s : State) : Word :=
  place s.map.sequence 0 8 ||| place s.policy.lastAcceptedSequence.toNat 8 8 |||
    place s.policy.lastRejectedSequence.toNat 16 8 ||| place s.policy.lastAcceptedKind.toNat 24 4 |||
    place s.policy.lastRejectedReason.code 28 4

/-- Report word 9: received-kinds set, coast count, relief counter. -/
def State.word9 (s : State) : Word :=
  place s.policy.received.toNat 0 8 ||| place s.tracker.coastCount 8 5 ||| place s.admission.relief 16 4

/-- The value of a counter slot; slots 40 to 43 carry no counter and read 0 (R165). -/
def State.slotValue (s : State) (n : Nat) : Nat := (s.report.counters[n]?).getD 0

/-- Report words 10 to 31: two counter slots to a word (R165). -/
def State.counterWord (s : State) (i : Nat) : Word :=
  place (s.slotValue (2 * (i - 10))) 0 16 ||| place (s.slotValue (2 * (i - 10) + 1)) 16 16

/-- Report words 32 to 95: a bin of the snapshot, slice 0 lowest (R79). -/
def State.snapshotWord (s : State) (b : Nat) : Word :=
  place (scoreAt s.map.snapshot b 0) 0 8 ||| place (scoreAt s.map.snapshot b 1) 8 8 |||
    place (scoreAt s.map.snapshot b 2) 16 8 ||| place (scoreAt s.map.snapshot b 3) 24 8

/-- The four report words of a neighbour slot's entry (section 11.6). -/
def Neighbour.reportWord (e : Neighbour) (part : Nat) : Word :=
  match part with
  | 0 => e.address.extractLsb' 0 32
  | 1 => place (e.address.extractLsb' 32 16).toNat 0 16 ||| place e.interval 16 10
  | 2 => e.anchor
  | _ => place e.airtime 0 16 ||| place e.confidence 16 3 ||| place e.missCount 20 2 ||| place e.misaligned 24 2

/-- Report words 96 to 127: a FREE slot reads as 0 (R104). -/
def State.neighbourWord (s : State) (n : Nat) : Word :=
  match s.schedule.slots[n / 4]? with
  | some (some e) => e.reportWord (n % 4)
  | _ => 0#32

/-- Report word i, composed from the state at its delivery (R163). -/
def State.reportWord (s : State) (i : Nat) : Word :=
  match i with
  | 0 => Config.identity
  | 1 => s.word1
  | 2 => s.air.airTime
  | 3 => s.air.offset
  | 4 => BitVec.ofNat 32 (s.tracker.period.getD 0)
  | 5 => s.tracker.ref.getD 0#32
  | 6 => s.word6
  | 7 => s.word7
  | 8 => s.word8
  | 9 => s.word9
  | n =>
    if n < 32 then s.counterWord n
    else if n < 96 then s.snapshotWord (n - 32)
    else if n < 128 then s.neighbourWord (n - 96)
    else 0#32

end Sys2Proof.Machine
end

