-- ==== Sys2Proof/Machine/TransferClassifier.lean ====
section
/-! DEFINITION. The Transfer Classifier (chapter 1): TRANSFER, DESCRIPTOR_READ, REPORT_READ, COMPLETION_CANDIDATE,
POSSIBLE_ABANDONMENT, RECEIVE_RECORD_INTAKE and the control-record commands, each carried by a transfer. -/

namespace Sys2Proof.Machine

/-- The part observes receive records, completions and abandonments in STANDBY and ACTIVE (R4). -/
def State.observesWrites (s : State) : Bool := s.policy.mode != .unconfigured

/-- A transfer leaves the M-port with its address, direction, length, tag and words (R1). -/
def State.forward (s : State) (f : Forwarded) : State := { s with bus.mPort := some f, bus.uPort := [] }

/-- A read as it leaves the M-port (R1). -/
def forwardedRead (tag : Tag) (addr : Addr) (n : Nat) : Forwarded :=
  { write := false, tag := tag, addr := addr, length := n, words := [] }

/-- A write as it leaves the M-port (R1). -/
def forwardedWrite (tag : Tag) (addr : Addr) (words : List WriteWord) : Forwarded :=
  { write := true, tag := tag, addr := addr, length := words.length, words := words }

/-! ### Writes that stay in service (R2) -/

/-- Words of the write in service accepted by memory (R1). -/
def State.send (s : State) (words : List WriteWord) : State :=
  { s with bus.mPort := s.bus.mPort.map fun f => { f with words := f.words ++ words } }

/-- The words of a write before its next marked word sent to memory as they arrived. The write stays in service, as what `kept`
makes of it, from that word on, and ends when none is left (R2). -/
def State.sendPlain {mark : Type} (s : State) (kept : List (Option mark × WriteWord) → Service)
    (rest : List (Option mark × WriteWord)) : State :=
  let later := rest.dropWhile fun p => p.1.isNone
  { s.send ((rest.takeWhile fun p => p.1.isNone).map Prod.snd) with
    bus.service := if later.isEmpty then none else some (kept later) }

/-! ### Completion candidates (R10) -/

/-- A word 4 that is a completion candidate: byte 0 enabled and done set (R10). -/
def isCandidate (w : WriteWord) : Bool := w.enables.getLsbD 0 && isDone w.data

/-- The descriptor that a word at an address is a completion candidate for, if it is one (R10). -/
def candidateAt (w : Windows) (address : Nat) (d : WriteWord) : Option Nat :=
  match w.tx.element descriptorSize address with
  | some e => if w.tx.wordIndex descriptorSize address = 4 ∧ isCandidate d = true then some e else none
  | none => none

/-- The words of a TX-DMA write, each completion word marked with its descriptor's index, in address order (R10). -/
def markCandidates (w : Windows) (addr : Addr) (words : List WriteWord) : List (Option Nat × WriteWord) :=
  ((List.range words.length).zip words).map fun p => (candidateAt w (wordAddress addr p.1) p.2, p.2)

/-- Word 5 as passed to the Rewriter: the word after word 4, if the transfer carries it with every byte enable set, and 0
otherwise (R10). -/
def word5After (behind : List (Option Nat × WriteWord)) : Word :=
  match behind with
  | (_, w) :: _ => if w.enables = 0xF#4 then w.data else 0#32
  | [] => 0#32

/-- A word 4 with the shaping code in byte 3, when that byte is enabled (R10). -/
def codedWord (w : WriteWord) (code : BitVec 8) : WriteWord :=
  if w.enables.getLsbD 3 then { w with data := withShapingCode w.data code } else w

/-- A TX-DMA write: taken in STANDBY or ACTIVE, it stays in service from its first completion word on (R10). -/
def State.takeTxWrite (s : State) (addr : Addr) (words : List WriteWord) : State :=
  match s.bus.windows, s.observesWrites with
  | some w, true =>
    (s.forward { forwardedWrite .txDma addr words with words := [] }).sendPlain .completions (markCandidates w addr words)
  | _, _ => s.forward (forwardedWrite .txDma addr words)

/-- The next completion word of the write in service: handled by the Rewriter, sent with the code it returns, and the words
behind it sent up to the completion word after it (R10). -/
def State.nextCompletion (s : State) : State :=
  match s.bus.service with
  | some (.completions ((some index, w) :: rest)) =>
    ((s.complete index w.data (word5After rest)).send [codedWord w (s.completionCode index)]).sendPlain .completions rest
  | _ => s

/-! ### Possible abandonments (R11) -/

/-- The indices of the descriptors of which a transfer carries any of words 0 to 4, in address order (R11). -/
def abandonedIndices (w : Windows) (addr : Addr) (n : Nat) : List Nat :=
  squeeze ((List.range n).filterMap fun i =>
    if w.tx.wordIndex descriptorSize (wordAddress addr i) ≤ 4 then
      w.tx.element descriptorSize (wordAddress addr i)
    else none)

/-- The possible abandonments of a CPU write (R11, R135). -/
def State.abandonments (s : State) (addr : Addr) (n : Nat) : State :=
  match s.bus.windows, s.observesWrites with
  | some w, true => (abandonedIndices w addr n).foldl State.abandon s
  | _, _ => s

/-! ### Control records (R12, R13) -/

/-- Whether a word lies outside every window. -/
def outsideWindows (windows : Option Windows) (address : Nat) : Bool :=
  match windows with
  | some w => !w.inside address
  | none => true

/-- The conditions of a control-record candidate besides tag, direction and length (R12). -/
def isControlRecord (windows : Option Windows) (addr : Addr) (words : List WriteWord) : Bool :=
  decide (words.length = 8) && decide (addr.toNat % 32 = 0) && words.all (fun w => w.enables == 0xF#4) &&
    (List.range 8).all (fun i => outsideWindows windows (wordAddress addr i)) &&
    (words.map WriteWord.data).head? == some Config.marker

/-- The eight words of a candidate. -/
def recordWords (words : List WriteWord) : Words8 := Words8.ofList (words.map WriteWord.data)

/-- A candidate: judged when its sum is 0, counted otherwise (R13). -/
def State.checkRecord (s : State) (w : Words8) : State :=
  if w.sum = 0#32 then s.judgeRecord w else s.count .checksumFail

/-- A CPU write: forwarded unchanged, a possible abandonment in the TX ring, a control record outside every window. -/
def State.takeCpuWrite (s : State) (addr : Addr) (words : List WriteWord) : State :=
  let f := s.forward (forwardedWrite .cpu addr words)
  if isControlRecord s.bus.windows addr words then f.checkRecord (recordWords words)
  else f.abandonments addr words.length

/-! ### Receive and spectral records (R5 to R7) -/

/-- The record that an address lies in: an element of the RX ring (true) or of the spectral area (false) (R5). -/
def Windows.recordAt (w : Windows) (address : Nat) : Option (Bool × Nat) :=
  match w.rx.element receiveSize address, w.spectral.element spectralSize address with
  | some e, _ => some (true, e)
  | none, some e => some (false, e)
  | none, none => none

/-- The record that a write touches, cut out with its element index when the write holds it whole (R5, R6). -/
def Windows.cutRecord (w : Windows) (addr : Addr) (words : List WriteWord) (place : Bool × Nat) : IntakeRecord :=
  if place.1 then
    match w.rx.wholeRecord receiveSize addr words place.2 with
    | some ws => .receive place.2 (ws.getD 0 0#32) (ws.getD 1 0#32) (ws.getD 2 0#32) (ws.getD 3 0#32)
    | none => .partly
  else
    match w.spectral.wholeRecord spectralSize addr words place.2 with
    | some ws => .spectral place.2 (Words8.ofList ws)
    | none => .partly

/-- The mark of word `i` of an RX-DMA write: the record of which it is the last word that the write carries (R6). -/
def Windows.recordMark (w : Windows) (addr : Addr) (words : List WriteWord) (i : Nat) : Option IntakeRecord :=
  match w.recordAt (wordAddress addr i) with
  | some place =>
    if i + 1 < words.length ∧ w.recordAt (wordAddress addr (i + 1)) = some place then none
    else some (w.cutRecord addr words place)
  | none => none

/-- The words of an RX-DMA write, the last of each record marked with it, in address order (R6). -/
def markRecords (w : Windows) (addr : Addr) (words : List WriteWord) : List (Option IntakeRecord × WriteWord) :=
  ((List.range words.length).map (w.recordMark addr words)).zip words

/-- A record of a transfer with an arrival time reaches Intake: an entry, or counted as of an ignored kind, as malformed, or as
partly covered (R7, R51, R52). No field of an entry holds the element index that the record carries (R51). -/
def State.arriveRecord (s : State) (arrival : Time) (r : IntakeRecord) : State :=
  match r with
  | .receive _ w0 w1 w2 w3 =>
    match receiveEntry arrival w0 w1 w2 w3 with
    | some e => s.arrive (.receive e)
    | none => s.count .ignoredKind
  | .spectral _ d =>
    match spectralEntry d with
    | some e => s.arrive (.spectral e)
    | none => s.count .malformedRecord
  | .partly => s.count .partialRecord

/-- An RX-DMA write: taken in STANDBY or ACTIVE, it stays in service from the last word of its first record on, with its
arrival time (R2, R6). -/
def State.takeRxWrite (s : State) (addr : Addr) (words : List WriteWord) : State :=
  match s.bus.windows, s.observesWrites with
  | some w, true =>
    (s.forward { forwardedWrite .rxDma addr words with words := [] }).sendPlain (.records s.air.airTime)
      (markRecords w addr words)
  | _, _ => s.forward (forwardedWrite .rxDma addr words)

/-- The next record of the write in service: passed to Intake, its last word sent, and the words behind it up to the last
word of the record after it (R6). Each record is judged as it arrives (R54). -/
def State.nextRecord (s : State) : State :=
  match s.bus.service with
  | some (.records arrival ((some r, w) :: rest)) => ((s.arriveRecord arrival r).send [w]).sendPlain (.records arrival) rest
  | _ => s

/-! ### Taking a transfer (R2, R4) -/

/-- A write taken while transfers are observed, by tag (R4). -/
def State.takeWrite (s : State) (tag : Tag) (addr : Addr) (words : List WriteWord) : State :=
  match tag with
  | .cpu => s.takeCpuWrite addr words
  | .txDma => s.takeTxWrite addr words
  | .rxDma => s.takeRxWrite addr words
  | .other => s.forward (forwardedWrite .other addr words)

/-- Consecutive words with equal marks put together. -/
def groupRuns : List (Option Nat × Word) → List (Option Nat × List Word)
  | [] => []
  | (mark, x) :: rest =>
    match groupRuns rest with
    | [] => [(mark, [x])]
    | (m, xs) :: more => if mark = m then (m, x :: xs) :: more else (mark, [x]) :: (m, xs) :: more

/-- The segment of a run of words with one mark: outside the TX ring, or of one descriptor (R5). -/
def segmentOf (run : Option Nat × List Word) : Segment :=
  match run.1 with
  | none => .outside run.2
  | some e => if run.2.length = 8 then .whole e (Words8.ofList run.2) else .partly run.2

/-- The words of a TX-DMA read, grouped into segments in address order (R5, R8). -/
def segmentsOf (w : Windows) (addr : Addr) (returned : List Word) : List Segment :=
  let marks := (List.range returned.length).map fun i => w.tx.element descriptorSize (wordAddress addr i)
  (groupRuns (marks.zip returned)).map segmentOf

/-- The words of a segment, as they return from memory. -/
def Segment.words (g : Segment) : List Word :=
  match g with
  | .outside ws => ws
  | .partly ws => ws
  | .whole _ d => d.toList

/-- The words of a piece, as they returned from memory. -/
def Piece.words (p : Piece) : List Word :=
  match p with
  | .stored ws => ws
  | .sampled _ d _ => d.toList

/-- The leading segments outside the TX ring, whose words are delivered as they return, and the rest. -/
def splitOutside : List Segment → List Piece × List Segment
  | .outside ws :: rest => (.stored ws :: (splitOutside rest).1, (splitOutside rest).2)
  | l => ([], l)

/-- A read by the transmit DMA (R8). -/
def State.takeTxRead (s : State) (addr : Addr) (returned : List Word) : State :=
  let f := s.forward (forwardedRead .txDma addr returned.length)
  match s.bus.windows with
  | none => f.deliver returned
  | some w =>
    let split := splitOutside (segmentsOf w addr returned)
    f.continueRead split.2 split.1

/-- Each word of a read with its address. -/
def addressed (addr : Addr) (returned : List Word) : List (Nat × Word) :=
  (List.range returned.length).map (wordAddress addr) |>.zip returned

/-- A read by the CPU: a report read when some word lies in the report area (R14, R15). -/
def State.takeCpuRead (s : State) (addr : Addr) (returned : List Word) : State :=
  let f := s.forward (forwardedRead .cpu addr returned.length)
  match s.bus.windows with
  | none => f.deliver returned
  | some w =>
    if (addressed addr returned).any (fun p => w.inReport p.1) then
      { f with bus.service := some (.report (addressed addr returned)) }
    else f.deliver returned

/-- A read taken while transfers are observed, by tag (R4). -/
def State.takeRead (s : State) (tag : Tag) (addr : Addr) (returned : List Word) : State :=
  match tag with
  | .cpu => s.takeCpuRead addr returned
  | .txDma => s.takeTxRead addr returned
  | .rxDma => (s.forward (forwardedRead .rxDma addr returned.length)).deliver returned
  | .other => (s.forward (forwardedRead .other addr returned.length)).deliver returned

/-- A transfer that passes through unobserved (R16). -/
def State.passThrough (s : State) (t : Transfer) : State :=
  match t with
  | .read tag addr returned => (s.forward (forwardedRead tag addr returned.length)).deliver returned
  | .write tag addr words => s.forward (forwardedWrite tag addr words)

/-- The U-port takes a transfer. One presented while another is in service is not taken, and changes nothing (R2, log entry
3); one taken before observation begins passes through (R16). -/
def State.takeTransfer (s : State) (t : Transfer) : State :=
  if s.bus.service.isSome then s
  else if !s.bus.observing then s.passThrough t
  else
    match t with
    | .read tag addr returned => s.takeRead tag addr returned
    | .write tag addr words => s.takeWrite tag addr words

/-! ### Descriptor reads (R7, R9) -/

/-- The course of a whole descriptor whose last word has just returned: to the Rewriter, or delivered as stored (R9). -/
def State.sampleDescriptor (s : State) (index : Nat) (d : Words8) : Piece :=
  if s.policy.mode = .active ∧ ownerIsRadio d.w4 = true ∧ isDone d.w4 = false then
    .sampled index d s.air.airTime
  else .stored d.toList

/-- The next segment returns: a whole descriptor is sampled, a partly covered one counted in ACTIVE (R7, R9). -/
def State.returnSegment (s : State) (g : Segment) : State × Piece :=
  match g with
  | .outside ws => (s, .stored ws)
  | .partly ws => (if s.policy.mode = .active then s.count .partialRecord else s, .stored ws)
  | .whole index d => (s, s.sampleDescriptor index d)

/-- The last word of the next descriptor of the TX-DMA read in service returns (R8, R9). -/
def State.nextDescriptor (s : State) : State :=
  match s.bus.service with
  | some (.descriptors (g :: rest) behind) =>
    let split := splitOutside rest
    (s.returnSegment g).1.continueRead split.2 (behind ++ (s.returnSegment g).2 :: split.1)
  | _ => s

/-! ### Report reads (R14, R15, R80) -/

/-- The word delivered upstream for a word of a report read: a report word in the report area, memory's elsewhere (R14). -/
def State.substituted (s : State) (address : Nat) (data : Word) : Word :=
  match s.bus.windows with
  | some w => if w.inReport address then s.reportWord ((address - w.report) / 4) else data
  | none => data

/-- The next word of the open report read is delivered; after the last, the read closes and a snapshot request that waited
for it makes its copy (R15, R80). -/
def State.nextReportWord (s : State) : State :=
  match s.bus.service with
  | some (.report ((address, data) :: rest)) =>
    let d := s.deliver [s.substituted address data]
    if rest.isEmpty then ({ d with bus.service := none } : State).takeSnapshot
    else { d with bus.service := some (.report rest) }
  | _ => s

/-! ### The commands -/

/-- TRANSFER (R1). -/
def execTransfer (t : Transfer) (s : State) : Host.Outcome State Fault Refusal := answer (s.takeTransfer t)

/-- DESCRIPTOR_READ (R8, R9). -/
def execDescriptorRead (e : ReadEvent) (s : State) : Host.Outcome State Fault Refusal :=
  match e with
  | .take addr returned => answer (s.takeTransfer (.read .txDma addr returned))
  | .next => answer s.nextDescriptor

/-- REPORT_READ (R14, R15). -/
def execReportRead (e : ReadEvent) (s : State) : Host.Outcome State Fault Refusal :=
  match e with
  | .take addr returned => answer (s.takeTransfer (.read .cpu addr returned))
  | .next => answer s.nextReportWord

/-- COMPLETION_CANDIDATE (R10). -/
def execCompletionCandidate (addr : Addr) (e : WriteEvent) (s : State) : Host.Outcome State Fault Refusal :=
  match e with
  | .take words => answer (s.takeTransfer (.write .txDma addr words))
  | .next => answer s.nextCompletion

/-- POSSIBLE_ABANDONMENT (R11). -/
def execPossibleAbandonment (addr : Addr) (words : List WriteWord) (s : State) : Host.Outcome State Fault Refusal :=
  answer (s.takeTransfer (.write .cpu addr words))

/-- RECEIVE_RECORD_INTAKE (R6). -/
def execReceiveRecordIntake (addr : Addr) (e : WriteEvent) (s : State) : Host.Outcome State Fault Refusal :=
  match e with
  | .take words => answer (s.takeTransfer (.write .rxDma addr words))
  | .next => answer s.nextRecord

/-- A control-record frame written by the CPU in one transfer (R12). -/
def State.takeFrame (s : State) (addr : Addr) (w : Words8) : State := s.takeTransfer (.write .cpu addr w.toWrite)

/-- UNKNOWN_KIND (R146). -/
def execUnknownKind (addr : Addr) (kind : BitVec 8) (body : RecordBody) (s : State) :
    Host.Outcome State Fault Refusal := answer (s.takeFrame addr (recordFrame kind body))

/-- WINDOWS (R149). -/
def execWindows (addr : Addr) (body : RecordBody) (s : State) : Host.Outcome State Fault Refusal :=
  answer (s.takeFrame addr (recordFrame 1#8 body))

/-- RADIO (R150). -/
def execRadio (addr : Addr) (body : RecordBody) (s : State) : Host.Outcome State Fault Refusal :=
  answer (s.takeFrame addr (recordFrame 2#8 body))

/-- RATES-LOW (R151). -/
def execRatesLow (addr : Addr) (body : RecordBody) (s : State) : Host.Outcome State Fault Refusal :=
  answer (s.takeFrame addr (recordFrame 3#8 body))

/-- RATES-HIGH (R151). -/
def execRatesHigh (addr : Addr) (body : RecordBody) (s : State) : Host.Outcome State Fault Refusal :=
  answer (s.takeFrame addr (recordFrame 4#8 body))

/-- MAINS (R152). -/
def execMains (addr : Addr) (body : RecordBody) (s : State) : Host.Outcome State Fault Refusal :=
  answer (s.takeFrame addr (recordFrame 5#8 body))

/-- MAP (R153). -/
def execMap (addr : Addr) (body : RecordBody) (s : State) : Host.Outcome State Fault Refusal :=
  answer (s.takeFrame addr (recordFrame 6#8 body))

/-- NEIGHBOUR (R154). -/
def execNeighbour (addr : Addr) (body : RecordBody) (s : State) : Host.Outcome State Fault Refusal :=
  answer (s.takeFrame addr (recordFrame 7#8 body))

/-- SHAPING (R155). -/
def execShaping (addr : Addr) (body : RecordBody) (s : State) : Host.Outcome State Fault Refusal :=
  answer (s.takeFrame addr (recordFrame 8#8 body))

/-- KEEPALIVE_REFRESH (R157). -/
def execKeepaliveRefresh (addr : Addr) (body : RecordBody) (s : State) : Host.Outcome State Fault Refusal :=
  answer (s.takeFrame addr (keepaliveFrame Config.refreshValue body))

/-- KEEPALIVE_RELEASE (R157). -/
def execKeepaliveRelease (addr : Addr) (body : RecordBody) (s : State) : Host.Outcome State Fault Refusal :=
  answer (s.takeFrame addr (keepaliveFrame Config.releaseValue body))

/-- KEEPALIVE_VALUE (R157). -/
def execKeepaliveValue (addr : Addr) (value : BitVec 16) (body : RecordBody) (s : State) :
    Host.Outcome State Fault Refusal := answer (s.takeFrame addr (keepaliveFrame value body))

/-- ACKNOWLEDGE (R167). -/
def execAcknowledge (addr : Addr) (body : RecordBody) (s : State) : Host.Outcome State Fault Refusal :=
  answer (s.takeFrame addr (recordFrame 10#8 body))

/-- CLEAR_MAP (R160). -/
def execClearMap (addr : Addr) (body : RecordBody) (s : State) : Host.Outcome State Fault Refusal :=
  answer (s.takeFrame addr (clearFrame 0 body))

/-- CLEAR_NEIGHBOURS (R160). -/
def execClearNeighbours (addr : Addr) (body : RecordBody) (s : State) : Host.Outcome State Fault Refusal :=
  answer (s.takeFrame addr (clearFrame 1 body))

/-- CLEAR_COUNTERS (R160). -/
def execClearCounters (addr : Addr) (body : RecordBody) (s : State) : Host.Outcome State Fault Refusal :=
  answer (s.takeFrame addr (clearFrame 2 body))

/-- RESTART (R160). -/
def execRestart (addr : Addr) (body : RecordBody) (s : State) : Host.Outcome State Fault Refusal :=
  answer (s.takeFrame addr (recordFrame 12#8 body))

end Sys2Proof.Machine
end

