-- ==== Sys2Proof/Machine/ClockAndReset.lean ====
section
/-! DEFINITION. Pin reset and the passing of time: PIN_RESET, RESET_RELEASE, TEN_MILLISECOND_TICK, KEEPALIVE_EXPIRY and
AIR_TIME_ADVANCE. -/

namespace Sys2Proof.Machine

/-! ### Pin reset (R16, R17) -/

/-- The words of the read in service that have not been delivered, as memory returns them (R16): the held descriptor, what
waits behind it, and what has not returned. -/
def State.undelivered (s : State) : List Word :=
  match s.bus.service with
  | none => []
  | some (.completions _) => []
  | some (.records _ _) => []
  | some (.report rest) => rest.map Prod.snd
  | some (.descriptors toReturn behind) =>
    (match s.admission.inProgress with
      | some v => v.words.toList
      | none => []) ++ behind.flatMap Piece.words ++ toReturn.flatMap Segment.words

/-- The words of the write in service that memory has not accepted, as they arrived (R16). -/
def State.unsent (s : State) : List WriteWord :=
  match s.bus.service with
  | some (.completions rest) => rest.map Prod.snd
  | some (.records _ rest) => rest.map Prod.snd
  | _ => []

/-- RESET asserted: every block at its pin-reset state and Air Time held, the transfer in service passed through; the level
of the MAINS input is the detector's, and the queue of commands is not the part's (R16, R17). -/
def State.assertReset (s : State) : State :=
  { State.reset with
    tracker := { Tracker.reset with mainsHigh := s.tracker.mainsHigh }
    bus := { Classifier.reset with
      mPort := (s.send s.unsent).bus.mPort, uPort := s.bus.uPort ++ s.undelivered, resetAsserted := true }
    pending := s.pending }

/-- PIN_RESET (R16). -/
def execPinReset (s : State) : Host.Outcome State Fault Refusal := answer s.assertReset

/-- RESET_RELEASE (R17): Air Time counts from the next microsecond. -/
def execResetRelease (s : State) : Host.Outcome State Fault Refusal :=
  answer { s with bus.resetAsserted := false }

/-! ### The ten-millisecond tick and the keep-alive (R20, R158) -/

/-- The keep-alive expires (R158). -/
def State.expireKeepalive (s : State) : State :=
  ({ s with policy.mode := .standby, policy.keepaliveCounter := 0 } : State).setFlag .keepaliveExpired
    |>.count .keepaliveExpired

/-- The keep-alive counter decreased by a tick (R158). -/
def State.decreaseKeepalive (s : State) : State :=
  match s.policy.mode with
  | .active =>
    if s.policy.keepaliveCounter ≤ 1 then s.expireKeepalive
    else { s with policy.keepaliveCounter := s.policy.keepaliveCounter - 1 }
  | .standby => s
  | .unconfigured => s

/-- The tick raised at the present Air Time is taken, once (R20). -/
def State.takeTick (s : State) : State :=
  if s.air.tickDue then ({ s with air.tickDue := false } : State).decreaseKeepalive else s

/-- The tick's decrease would bring the keep-alive counter to 0 (R158). -/
def State.keepaliveDue (s : State) : Bool :=
  s.air.tickDue && s.policy.mode == .active && decide (s.policy.keepaliveCounter ≤ 1)

/-- TEN_MILLISECOND_TICK (R20, R158); no effect while no tick is due (log entry 3). -/
def execTenMillisecondTick (s : State) : Host.Outcome State Fault Refusal := answer s.takeTick

/-- KEEPALIVE_EXPIRY (R158): the tick whose decrease reaches 0; no effect while none is due (log entry 3). -/
def execKeepaliveExpiry (s : State) : Host.Outcome State Fault Refusal :=
  answer (if s.keepaliveDue then s.takeTick else s)

/-! ### The microsecond (R17, R19, R169) -/

/-- The tracker expiry taken, when it is due (R19). -/
def State.takeTrackerExpiry (s : State) : State :=
  match s.tracker.lockState with
  | .locked => s.takeLockExpiry
  | .coasting => s.takeCoastExpiry
  | _ => s

/-- The stale expiries taken that are due, oldest entry first (R19, R137). -/
def State.takeStales (s : State) : State :=
  (s.rewriter.entries.map PendingEntry.index).foldl State.takeStale s

/-- The miss expiries taken that are due, in slot order (R19, R95). -/
def State.takeMisses (s : State) : State := (List.finRange 8).foldl State.takeMiss s

/-- What the present microsecond still owes before it passes: the tick and every expiry that Air Time has reached and no
command has taken (R19, R20, log entry 4). -/
def State.settle (s : State) : State := s.takeTick.takeTrackerExpiry.takeStales.takeMisses

/-- Air Time advanced by 1: a tick is raised at a multiple of 10,000, and transfers are observed from now on (R16, R17,
R20). -/
def State.advance (s : State) : State :=
  let t := s.air.airTime + 1#32
  { s with air.airTime := t, air.tickDue := t.toNat % 10000 == 0, bus.observing := true }

/-- A microsecond passes; while RESET is asserted Air Time is held (R17). -/
def State.tickMicrosecond (s : State) : State := if s.bus.resetAsserted then s else s.settle.advance

/-- AIR_TIME_ADVANCE (R17, R169). -/
def execAirTimeAdvance (s : State) : Host.Outcome State Fault Refusal := answer s.tickMicrosecond

end Sys2Proof.Machine
end

