-- ==== Sys2Proof/Machine/Dispatch.lean ====
section
/-! DEFINITION. One arm for each command: the command's effect on everything but the queue of commands. -/

namespace Sys2Proof.Machine

/-- The effect of a command (spec/opcode_table.json). -/
def exec (i : Instr) (s : State) : Host.Outcome State Fault Refusal :=
  match i with
  | .pinReset => Sys2Proof.Machine.execPinReset s
  | .resetRelease => Sys2Proof.Machine.execResetRelease s
  | .tenMillisecondTick => Sys2Proof.Machine.execTenMillisecondTick s
  | .keepaliveExpiry => Sys2Proof.Machine.execKeepaliveExpiry s
  | .transfer t => Sys2Proof.Machine.execTransfer t s
  | .descriptorRead e => Sys2Proof.Machine.execDescriptorRead e s
  | .admissionResult => Sys2Proof.Machine.execAdmissionResult s
  | .completionCandidate addr e => Sys2Proof.Machine.execCompletionCandidate addr e s
  | .possibleAbandonment addr words => Sys2Proof.Machine.execPossibleAbandonment addr words s
  | .staleExpiry index => Sys2Proof.Machine.execStaleExpiry index s
  | .receiveRecordIntake addr e => Sys2Proof.Machine.execReceiveRecordIntake addr e s
  | .reportRead e => Sys2Proof.Machine.execReportRead e s
  | .unknownKind addr kind body => Sys2Proof.Machine.execUnknownKind addr kind body s
  | .windows addr body => Sys2Proof.Machine.execWindows addr body s
  | .radio addr body => Sys2Proof.Machine.execRadio addr body s
  | .ratesLow addr body => Sys2Proof.Machine.execRatesLow addr body s
  | .ratesHigh addr body => Sys2Proof.Machine.execRatesHigh addr body s
  | .mains addr body => Sys2Proof.Machine.execMains addr body s
  | .map addr body => Sys2Proof.Machine.execMap addr body s
  | .neighbour addr body => Sys2Proof.Machine.execNeighbour addr body s
  | .shaping addr body => Sys2Proof.Machine.execShaping addr body s
  | .keepaliveRefresh addr body => Sys2Proof.Machine.execKeepaliveRefresh addr body s
  | .keepaliveRelease addr body => Sys2Proof.Machine.execKeepaliveRelease addr body s
  | .acknowledge addr body => Sys2Proof.Machine.execAcknowledge addr body s
  | .clearMap addr body => Sys2Proof.Machine.execClearMap addr body s
  | .clearNeighbours addr body => Sys2Proof.Machine.execClearNeighbours addr body s
  | .clearCounters addr body => Sys2Proof.Machine.execClearCounters addr body s
  | .restart addr body => Sys2Proof.Machine.execRestart addr body s
  | .mainsEdge rising => Sys2Proof.Machine.execMainsEdge rising s
  | .lockExpiry => Sys2Proof.Machine.execLockExpiry s
  | .coastExpiry => Sys2Proof.Machine.execCoastExpiry s
  | .spectralFold => Sys2Proof.Machine.execSpectralFold s
  | .receiveFold => Sys2Proof.Machine.execReceiveFold s
  | .completionFold => Sys2Proof.Machine.execCompletionFold s
  | .evidence => Sys2Proof.Machine.execEvidence s
  | .age => Sys2Proof.Machine.execAge s
  | .mapClear => Sys2Proof.Machine.execMapClear s
  | .mapSettings => Sys2Proof.Machine.execMapSettings s
  | .snapshot => Sys2Proof.Machine.execSnapshot s
  | .beaconUpdate => Sys2Proof.Machine.execBeaconUpdate s
  | .missExpiry slot => Sys2Proof.Machine.execMissExpiry slot s
  | .missedBeacon => Sys2Proof.Machine.execMissedBeacon s
  | .neighbourClear => Sys2Proof.Machine.execNeighbourClear s
  | .neighbourSettings => Sys2Proof.Machine.execNeighbourSettings s
  | .airTimeAdvance => Sys2Proof.Machine.execAirTimeAdvance s
  | .keepaliveValue addr value body => Sys2Proof.Machine.execKeepaliveValue addr value body s

end Sys2Proof.Machine
end

