-- ==== Sys2Proof/Safety.lean ====
section
/-! DEFINITION. The terms the statements use: what a command may change, when a control record reaches the Policy Unit, and
the invariants of a safe run, block by block. -/

namespace Sys2Proof.Machine

/-! ### What a command changes -/

/-- The blocks of the state; the queue of commands is beside them. -/
inductive Block where
  | air | tracker | intake | map | schedule | admission | rewriter | policy | report | bus
  deriving DecidableEq, Repr

/-- A block has the same contents in two states. -/
def Block.same (b : Block) (s t : State) : Prop :=
  match b with
  | .air => t.air = s.air
  | .tracker => t.tracker = s.tracker
  | .intake => t.intake = s.intake
  | .map => t.map = s.map
  | .schedule => t.schedule = s.schedule
  | .admission => t.admission = s.admission
  | .rewriter => t.rewriter = s.rewriter
  | .policy => t.policy = s.policy
  | .report => t.report = s.report
  | .bus => t.bus = s.bus

/-- Only the blocks named may differ; the queue of commands does not. -/
def OnlyIn (changed : List Block) (s t : State) : Prop :=
  t.pending = s.pending ∧ ∀ b : Block, b ∉ changed → b.same s t

/-- What happened in the Report Unit besides its lines: the flags named were set, the counters named counted 1 and held at
65,535, and every other flag, counter, enable and WIN setting is as it was (R164, R166). -/
def Reported (set : List Flag) (counted : List Counter) (s t : State) : Prop :=
  t.report.flags = set.foldl (fun w f => w ||| (1#16 <<< f.number)) s.report.flags ∧
    t.report.enables = s.report.enables ∧ t.report.win = s.report.win ∧
    ∀ c : Counter, t.counter c = if c ∈ counted then min 65535 (s.counter c + 1) else s.counter c

/-! ### Control records on the bus (R12, R13) -/

/-- The U-port can take a control record at an address: no read is in service, transfers are observed, the address is a
multiple of 32, and the eight words lie outside every window (R2, R12). -/
def TakesRecord (s : State) (addr : Addr) : Prop :=
  s.bus.observing = true ∧ s.bus.service = none ∧ addr.toNat % 32 = 0 ∧
    ∀ i, i < 8 → ∀ w, s.bus.windows = some w → w.inside (addr.toNat + 4 * i) = false

/-- A row of the table that names a control record, with the kind code it writes and the word 2 that its name and its payload
give: a KEEPALIVE row puts its value in the low half, and a CLEAR row sets its own bit (section 11.4). -/
def RecordRow (c : Instr) (addr : Addr) (body : RecordBody) (kind : BitVec 8) (w2 : Word) : Prop :=
  (w2 = body.w2 ∧ (c = .unknownKind addr kind body ∨
    (c, kind) ∈ [(.windows addr body, 1#8), (.radio addr body, 2#8), (.ratesLow addr body, 3#8), (.ratesHigh addr body, 4#8),
      (.mains addr body, 5#8), (.map addr body, 6#8), (.neighbour addr body, 7#8), (.shaping addr body, 8#8),
      (.acknowledge addr body, 10#8), (.restart addr body, 12#8)])) ∨
  (kind = 9#8 ∧ ∃ value : BitVec 16, w2 = body.w2.extractLsb' 16 16 ++ value ∧
    (c = .keepaliveRefresh addr body ∧ value = 0x5AC3#16 ∨ c = .keepaliveRelease addr body ∧ value = 0#16 ∨
      c = .keepaliveValue addr value body)) ∨
  (kind = 11#8 ∧ ∃ bit : Nat, w2 = body.w2 ||| (1#32 <<< bit) ∧
    (c, bit) ∈ [(.clearMap addr body, 0), (.clearNeighbours addr body, 1), (.clearCounters addr body, 2)])

/-- A command by which the CPU writes the eight words of a control record, marker first, at an address: a row of its own, or a
CPU write in general (R12, section 11.4). -/
def WritesRecord (c : Instr) (addr : Addr) (w : Words8) : Prop :=
  w.w0 = 0x6A3C31E5#32 ∧
    (c = .transfer (.write .cpu addr w.toWrite) ∨ c = .possibleAbandonment addr w.toWrite ∨
      ∃ body kind, RecordRow c addr body kind w.w2 ∧ w.w1 = body.high ++ body.sequence ++ kind ∧ w.w3 = body.w3 ∧
        w.w4 = body.w4 ∧ w.w5 = body.w5 ∧ w.w6 = body.w6 ∧ w.w7 = body.checksum)

/-- A command that writes a control record which the part judges and accepts, of the kind and with the word 2 named: the
record's words sum to 0, and it is the last accepted record afterwards (R13, R148). -/
def LeavesRecord (c : Instr) (s t : State) (kind : BitVec 8) (w2 : Word) : Prop :=
  ∃ addr w, WritesRecord c addr w ∧ TakesRecord s addr ∧
    w.w0 + w.w1 + w.w2 + w.w3 + w.w4 + w.w5 + w.w6 + w.w7 = 0#32 ∧ w.w1.extractLsb' 0 8 = kind ∧ w.w2 = w2 ∧
    t.policy.lastAcceptedKind = kind ∧ t.policy.lastAcceptedSequence = w.w1.extractLsb' 8 8

/-- The transfer of a control record at the ports: the write left the M-port as it arrived and nothing went upstream (R1,
R13). The windows are said apart. -/
def CarriedRecord (addr : Addr) (w : Words8) (s t : State) : Prop :=
  t.bus.mPort = some { write := true, tag := .cpu, addr := addr, length := 8, words := w.toWrite } ∧ t.bus.uPort = [] ∧
    t.bus.service = none ∧ t.bus.observing = s.bus.observing ∧ t.bus.resetAsserted = s.bus.resetAsserted

/-- The record of an acceptance of a configuration kind: the last accepted record, the received-kinds set, and the mode,
which leaves UNCONFIGURED when the set is complete (R148, R156). -/
def Policy.afterKind (p : Policy) (kind : Nat) (sequence : BitVec 8) : Policy :=
  { p with
    lastAcceptedKind := BitVec.ofNat 8 kind
    lastAcceptedSequence := sequence
    received := p.received ||| (1#8 <<< (kind - 1))
    mode := if p.mode = .unconfigured ∧ p.received ||| (1#8 <<< (kind - 1)) = 0xFF#8 then .standby else p.mode }

/-- A refusal and nothing else: the last rejected record, POLICY_REJECTED and the reject counter (R147). -/
def RefusedWith (reason : RejectReason) (sequence : BitVec 8) (s t : State) : Prop :=
  t.policy = { s.policy with lastRejectedSequence := sequence, lastRejectedReason := reason } ∧
    t.bus.windows = s.bus.windows ∧ Reported [.policyRejected] [.reject] s t ∧
    OnlyIn [.policy, .report, .bus] s t

/-- The fields of a descriptor that an admission and the pending transmit list use, at their bits of words 1 and 2 (R106, R129,
section 11.1). -/
def descriptorFields (d : Words8) : Fingerprint :=
  { length := (d.w1.extractLsb' 0 12).toNat, rate := (d.w1.extractLsb' 12 4).toFin
    width := if d.w1.getLsbD 16 = true then .mhz40 else .mhz20, pinned := d.w1.getLsbD 17
    narrowable := d.w1.getLsbD 18, deferrable := d.w1.getLsbD 19, notBefore := d.w2 }

/-- The words delivered of a descriptor under a decision: the width flag at 20 MHz for a narrowing, the not-before word
rewritten for a deferral, and every other bit as stored (R133). -/
def deliveredWords (decision : Decision) (notBefore : Option Time) (d : Words8) : List Word :=
  [d.w0,
    if decision = .narrow ∨ decision = .narrowDefer then d.w1 &&& 0xFFFEFFFF#32 else d.w1,
    if decision = .defer ∨ decision = .narrowDefer then notBefore.getD d.w2 else d.w2,
    d.w3, d.w4, d.w5, d.w6, d.w7]

/-- The segments of a TX-DMA read from its word `pos` on: each is a run of words, as long as can be, that lie in one descriptor
of the TX ring or all outside it; eight words of one descriptor are that whole descriptor (R5). -/
def Segmented (w : Windows) (addr : Addr) (total : Nat) : Nat → List Segment → Prop
  | pos, [] => pos = total
  | pos, g :: rest =>
    (1 ≤ g.words.length ∧ ∃ place : Option Nat,
      (∀ j, j < g.words.length → w.tx.element 32 (addr.toNat + 4 * (pos + j)) = place) ∧
      (pos + g.words.length < total → w.tx.element 32 (addr.toNat + 4 * (pos + g.words.length)) ≠ place) ∧
      match g with
      | .outside _ => place = none
      | .partly ws => place ≠ none ∧ ws.length ≠ 8
      | .whole i _ => place = some i) ∧
    Segmented w addr total (pos + g.words.length) rest

/-! ### Records of an RX-DMA write (R5 to R7) -/

/-- The words of a record, when it is whole. -/
def IntakeRecord.words : IntakeRecord → List Word
  | .receive _ w0 w1 w2 w3 => [w0, w1, w2, w3]
  | .spectral _ d => d.toList
  | .partly => []

/-- The element index that a whole record carries (R6). -/
def IntakeRecord.elementIndex : IntakeRecord → Option Nat
  | .receive index _ _ _ _ => some index
  | .spectral index _ => some index
  | .partly => none

/-- The words of a write up to its word `j`, which ends an element of a window, are `ds`: those of the whole element, every byte
enable set (R5). -/
def WholeAt (base size : Nat) (addr : Addr) (words : List WriteWord) (j : Nat) (ds : List Word) : Prop :=
  (addr.toNat + 4 * j - base) % size + 4 = size ∧ 4 * ds.length = size ∧ ds.length ≤ j + 1 ∧
    (words.drop (j + 1 - ds.length)).take ds.length = ds.map fun d => { data := d, enables := 0xF#4 }

/-- The mark of word `j` of an RX-DMA write, which lies in a window with elements of a size: the last word that the write carries
of an element is marked, with the record's words and its element index when it is whole, and as partly covered otherwise (R5 to
R7). -/
def MarkIs (base size : Nat) (addr : Addr) (words : List WriteWord) (j : Nat) (mark : Option IntakeRecord) : Prop :=
  if (addr.toNat + 4 * j - base) % size + 4 = size ∨ j + 1 = words.length then
    ∃ r, mark = some r ∧ (∀ ds, WholeAt base size addr words j ds →
        r.words = ds ∧ r.elementIndex = some ((addr.toNat + 4 * j - base) / size)) ∧
      ((∀ ds, ¬ WholeAt base size addr words j ds) → r = .partly)
  else mark = none

/-- The marks of the words of an RX-DMA write: of the elements of the RX ring and of the spectral area; a word in neither has
none (R5, R6). -/
def RecordMarks (w : Windows) (addr : Addr) (words : List WriteWord) (mark : Nat → Option IntakeRecord) : Prop :=
  ∀ j, j < words.length →
    (w.rx.holds 16 (addr.toNat + 4 * j) = true → MarkIs w.rx.base 16 addr words j (mark j)) ∧
    (w.spectral.holds 32 (addr.toNat + 4 * j) = true → MarkIs w.spectral.base 32 addr words j (mark j)) ∧
    (w.rx.holds 16 (addr.toNat + 4 * j) = false → w.spectral.holds 32 (addr.toNat + 4 * j) = false → mark j = none)

/-- The next record of the RX-DMA write in service, with the transfer's arrival time: `a` is the last word of the record,
`plain` the words between it and the next marked word, and `later` the words from that one on. -/
def NextRecord (r : IntakeRecord) (arrival : Time) (f : Forwarded) (a : WriteWord) (plain : List WriteWord)
    (later : List (Option IntakeRecord × WriteWord)) (s : State) : Prop :=
  s.bus.service = some (.records arrival ((some r, a) :: (plain.map (fun x => (none, x)) ++ later))) ∧
    s.bus.mPort = some f ∧ ∀ x, later.head? = some x → x.1 ≠ none

/-- The words of the record handled, and those up to the next marked word, went on to memory as they arrived; the write stays in
service while words are left (R2, R6). -/
def RecordPassed (arrival : Time) (f : Forwarded) (a : WriteWord) (plain : List WriteWord)
    (later : List (Option IntakeRecord × WriteWord)) (s t : State) : Prop :=
  t.bus = { s.bus with
    mPort := some { f with words := f.words ++ a :: plain }
    service := if later = [] then none else some (.records arrival later) }

/-! ### Folds (R56) -/

/-- The fold in hand is that of an entry at the head of the FIFO, and has not yet handed anything on. -/
def FoldInHand (f : Fold) (e : Entry) (rest : List Entry) (s : State) : Prop :=
  s.intake.fold = some f ∧ f.handedOn = false ∧ s.intake.fifo = e :: rest

/-- The Air Time Unit took the sample `x` (R23 to R25), with the flags and the counters named reported besides: UNALIGNED, it
aligns; with an error in -32..32 it slews; otherwise it is an outlier, and the fourth in a row steps the offset. -/
def SampleTaken (x : Word) (set : List Flag) (counted : List Counter) (s t : State) : Prop :=
  (s.air.aligned = false →
    t.air = { s.air with offset := x, aligned := true, outlierRun := 0 } ∧ Reported set counted s t) ∧
  (s.air.aligned = true → ∀ err, err = (x - s.air.offset).toInt →
    (-32 ≤ err → err ≤ 32 → Reported set counted s t ∧
      t.air = { s.air with offset := s.air.offset + BitVec.ofInt 32 (err.tdiv 4), outlierRun := 0 }) ∧
    (err < -32 ∨ 32 < err → s.air.outlierRun < 3 → Reported set counted s t ∧
      t.air = { s.air with outlierRun := s.air.outlierRun + 1 }) ∧
    (err < -32 ∨ 32 < err → 3 ≤ s.air.outlierRun → Reported (set ++ [.timeStepped]) (counted ++ [.step]) s t ∧
      t.air = { s.air with offset := x, outlierRun := 0 }))

/-- The fold of an entry began, with the flags and the counters named reported besides: a RECEIVE entry gives its sample first,
and then the fold holds the phase, the RADIO fields, the rate table, the MAP fields, the offset and the alignment state as
they stand (R22, R56). -/
def FoldBegun (e : Entry) (set : List Flag) (counted : List Counter) (s t : State) : Prop :=
  t.intake.fold = some { handedOn := false
                         context := { phase := s.tracker.phase, radio := s.policy.radio, rates := s.policy.rates
                                      evidence := s.policy.map, offset := t.air.offset, aligned := t.air.aligned } } ∧
    (∀ r, e.body = .receive r →
      SampleTaken (r.frameEnd - (r.arrival - BitVec.ofNat 32 s.policy.radio.latency)) set counted s t) ∧
    ((∀ r, e.body ≠ .receive r) → t.air = s.air ∧ Reported set counted s t)

/-- The fold ended at once and counted the counters named: the entry left the head, and with nothing behind it the processor
is IDLE; otherwise the fold of the entry behind it has begun. -/
def FoldEnded (counted : List Counter) (rest : List Entry) (s t : State) : Prop :=
  t.intake.fifo = rest ∧ OnlyIn [.air, .intake, .report] s t ∧
    (rest = [] → t.intake.fold = none ∧ t.air = s.air ∧ Reported [] counted s t) ∧
    ∀ e more, rest = e :: more → FoldBegun e [] counted s t

/-- The fold handed one evidence request to the Map and waits for it, with the counters named counted. -/
def HandedToMap (e : Evidence) (counted : List Counter) (f : Fold) (s t : State) : Prop :=
  t.map = { s.map with requests := s.map.requests ++ [.evidence e true] } ∧
    t.intake.fifo = s.intake.fifo ∧ t.intake.fold = some { f with handedOn := true } ∧
    OnlyIn [.intake, .map, .report] s t ∧ Reported [] counted s t

/-- A request was served, with the blocks named changed, flags set and counters counted, and the fold that waited for it, when
one did, has ended: its entry left the head, and with nothing behind it the processor is IDLE; otherwise the fold of the
entry behind it has begun. -/
def ServedFor (forFold : Bool) (changed : List Block) (set : List Flag) (counted : List Counter) (s t : State) : Prop :=
  (forFold = false → OnlyIn changed s t ∧ Reported set counted s t) ∧
    (forFold = true → OnlyIn (.air :: .intake :: changed) s t ∧ t.intake.fifo = s.intake.fifo.tail ∧
      t.intake.lastSequence = s.intake.lastSequence ∧
      (s.intake.fifo.length ≤ 1 → t.intake.fold = none ∧ t.air = s.air ∧ Reported set counted s t) ∧
      ∀ a e more, s.intake.fifo = a :: e :: more → FoldBegun e set counted s t)

/-! ### The neighbour table (R95) -/

/-- An entry stands in a slot with its miss expiry armed one interval and the tolerance after its anchor; an expiry that is not
after Air Time has been taken at once (R19) and waits behind the requests named. Every other slot, and the settings, are as
they were. -/
def ArmedIn (i : Fin 8) (e : Neighbour) (waiting : List ScheduleRequest) (s t : State) : Prop :=
  ∃ x late, x = e.anchor + BitVec.ofNat 32 (e.interval * 1024 + s.schedule.settings.tolerance) ∧
    (late = true ↔ (x - s.air.airTime).toInt ≤ 0) ∧
    t.schedule = { s.schedule with
      slots := s.schedule.slots.set i (some { e with expiry := x, taken := late })
      requests := waiting ++ if late then [.expiry i e.address] else [] }

/-! ### Commands in a row -/

/-- The commands, taken one after the other, lead from one state to another. -/
def Ran : List Instr → State → State → Prop
  | [], s, u => u = s
  | c :: rest, s, u => ∃ m, exec c s = .next m ∧ Ran rest m u

/-! ### MAINS edges (R30 to R33) -/

/-- A transition to `rising` at the present Air Time is an edge that the edge mode considers (R30). -/
def Considered (rising : Bool) (s : State) : Prop :=
  s.bus.resetAsserted = false ∧ (∀ t, s.tracker.lastTransition = some t → 100 ≤ (s.air.airTime - t).toInt) ∧
    (s.tracker.edgeMode = .both ∨ s.tracker.edgeMode = .rising ∧ rising = true ∨
      s.tracker.edgeMode = .falling ∧ rising = false)

/-- The spacing test passes at the present Air Time (R31). -/
def SpacingHolds (s : State) : Prop :=
  ∀ t, s.tracker.lastAccepted = some t →
    (∀ p, s.tracker.period = some p → (p / 4 : Nat) ≤ (s.air.airTime - t).toInt) ∧
      (s.tracker.period = none → 3750 ≤ (s.air.airTime - t).toInt)

/-- The middle window test passes at the present Air Time, or R32 does not call for it. -/
def WindowHolds (s : State) : Prop :=
  s.tracker.role = .middle →
    s.tracker.lockState = .locking ∨ s.tracker.lockState = .locked ∨ s.tracker.lockState = .coasting →
      ∀ p r, s.tracker.period = some p → s.tracker.ref = some r →
        2 * (p : Int) ≤ 5 * (s.air.airTime - r).toInt ∧ 5 * (s.air.airTime - r).toInt ≤ 3 * (p : Int)

/-- The tracker after a reference edge at the present Air Time is accepted, before its lock state answers (R30 to R32). -/
def Tracker.atReference (tr : Tracker) (rising : Bool) (now : Time) : Tracker :=
  { tr with
    mainsHigh := rising, lastTransition := some now, lastAccepted := some now
    role := if tr.edgeMode = .both then .middle else .reference }

/-! ### Phase, windows and WIN, in the manual's words -/

/-- Phase is available with r and P (R43). -/
def PhaseIs (tr : Tracker) (r : Time) (p : Nat) : Prop :=
  (tr.lockState = .locked ∨ tr.lockState = .coasting) ∧ tr.ref = some r ∧ tr.period = some p

/-- The bin of an Air Time: floor(d × 64 / P) with d = (t − r) mod P, the difference signed (R43). -/
def binAt (r : Time) (p : Nat) (t : Time) : Nat := (((t - r).toInt % (p : Int)) * 64 / (p : Int)).toNat

/-- Window k of an entry intersects [a, a + n), its beginning moved `lead` earlier, and ends after `now`; places are amounts
after the entry's anchor (R98, R99; log entry 10). -/
def WindowMeets (e : Neighbour) (g : NeighbourFields) (lead : Nat) (now a : Time) (n k : Nat) : Prop :=
  (now - e.anchor).toInt < k * (e.interval * 1024) + e.airtime + g.guardAfter ∧
    (now - e.anchor).toInt + (a - now).toInt < k * (e.interval * 1024) + e.airtime + g.guardAfter ∧
    (k * (e.interval * 1024) : Int) - g.guardBefore - lead < (now - e.anchor).toInt + (a - now).toInt + n

/-- Some window of a TRACKED entry of a table meets [a, a + n). -/
def TrackedWindowMeets (slots : Vector (Option Neighbour) 8) (g : NeighbourFields) (lead : Nat) (now a : Time) (n : Nat) :
    Prop :=
  ∃ i : Fin 8, ∃ e, slots[i] = some e ∧ 3 ≤ e.confidence ∧ ∃ k : Nat, WindowMeets e g lead now a n k

/-- A slice of the primary pair (R57). -/
def InPrimaryPair (position : Secondary) (k : Nat) : Prop :=
  if position = .below then k = 2 ∨ k = 3 else k = 0 ∨ k = 1

/-- The burst condition at an Air Time (R170). -/
def BurstHolds (s : State) (r : Time) (p : Nat) : Prop :=
  ∃ b k, b < 64 ∧ InPrimaryPair s.policy.radio.secondary k ∧ s.map.settings.hotLevel ≤ scoreAt s.map.cells b k ∧
    (b + 64 - binAt r p s.air.airTime) % 64 ≤
      (binAt r p (s.air.airTime + BitVec.ofNat 32 s.report.win.lead) + 64 - binAt r p s.air.airTime) % 64

/-- WIN's condition (R169): enabled, STANDBY or ACTIVE, phase available, and a burst or (with the option) a beacon. -/
def WinHolds (s : State) : Prop :=
  s.report.win.enable = true ∧ s.policy.mode ≠ .unconfigured ∧ ∃ r p, PhaseIs s.tracker r p ∧
    (BurstHolds s r p ∨
      s.report.win.neighbourOption = true ∧
        TrackedWindowMeets s.schedule.slots s.schedule.settings s.report.win.lead s.air.airTime s.air.airTime 1)

/-- No expiry is due at the present Air Time (R19). -/
def NothingDue (s : State) : Prop :=
  s.air.tickDue = false ∧ (∀ t, s.tracker.expiry = some t → sdiff s.air.airTime t < 0) ∧
    (∀ i : Fin 8, ∀ e, s.schedule.slots[i] = some e → e.taken = true ∨ sdiff s.air.airTime e.expiry < 0) ∧
    ∀ e ∈ s.rewriter.entries, sdiff s.air.airTime e.expiry < 0

/-! ### Invariants -/

/-- The Occupancy Map's settings in their ranges (R73, R76). -/
def MapSettings.Legal (m : MapSettings) : Prop :=
  1 ≤ m.hotLevel ∧ m.hotLevel ≤ 255 ∧ m.agePeriod ≤ 255 ∧ 1 ≤ m.ageShift ∧ m.ageShift ≤ 7

/-- The Occupancy Map (R68, R74, R81): every score in 0..255, the hot count the number of cells at or above the hot level,
the cycle-age count below the age period, and the settings held and on their way in their ranges. -/
def OccupancyMap.Inv (m : OccupancyMap) : Prop :=
  (∀ i : Fin 256, m.cells[i] ≤ 255 ∧ m.snapshot[i] ≤ 255) ∧
    m.hotCount = (m.cells.toList.filter fun c => decide (m.settings.hotLevel ≤ c)).length ∧
    m.settings.Legal ∧ (m.cycleAge = 0 ∨ m.cycleAge < m.settings.agePeriod) ∧ m.sequence ≤ 255 ∧
    ∀ x, MapRequest.settings x ∈ m.requests → x.Legal

/-- The tracker (section 3, R32, R34, R39): the period in range and present by the lock state, the reference present with
it, an expiry armed exactly in LOCKED and COASTING at r + P + P/2, the counts and the coast limit in range, and the role. -/
def Tracker.Inv (t : Tracker) : Prop :=
  (∀ p, t.period = some p → 15000 ≤ p ∧ p ≤ 22000) ∧
    (t.period = none ↔ t.lockState = .off ∨ t.lockState = .seeking) ∧
    (t.period ≠ none → t.ref ≠ none) ∧
    (t.expiry ≠ none ↔ t.lockState = .locked ∨ t.lockState = .coasting) ∧
    (∀ e, t.expiry = some e → ∃ r p, t.ref = some r ∧ t.period = some p ∧ e = r + BitVec.ofNat 32 (p + p / 2)) ∧
    (t.edgeMode = .off ↔ t.lockState = .off) ∧
    (t.edgeMode ≠ .both → t.role = .reference) ∧
    1 ≤ t.coastLimit ∧ t.coastLimit ≤ 15 ∧ t.lockCount ≤ 4 ∧
    (t.lockState = .locking → 1 ≤ t.lockCount ∧ t.lockCount ≤ 3) ∧
    (t.lockState = .coasting → 1 ≤ t.coastCount ∧ t.coastCount ≤ 15) ∧
    (t.lockState = .lost → 2 ≤ t.coastCount ∧ t.coastCount ≤ 16 ∧ t.relockMark = true) ∧
    (t.lockState ≠ .coasting → t.lockState ≠ .lost → t.coastCount = 0)

/-- The number of requests, at the Map and at the Schedule, whose service a fold waits for (R56). -/
def State.awaited (s : State) : Nat :=
  (s.map.requests.filter fun q => match q with
    | .evidence _ forFold => forFold
    | _ => false).length +
  (s.schedule.requests.filter fun q => match q with
    | .update _ forFold => forFold
    | _ => false).length

/-- Record Intake (R53, R56): at most 8 entries, IDLE exactly when there is none, and a fold that has handed on a request
waits for exactly one. -/
def State.IntakeInv (s : State) : Prop :=
  s.intake.fifo.length ≤ 8 ∧ (s.intake.fold = none ↔ s.intake.fifo = []) ∧
    s.awaited = match s.intake.fold with
      | some f => if f.handedOn then 1 else 0
      | none => 0

/-- The NEIGHBOUR fields in their ranges (R154). -/
def NeighbourFields.Legal (n : NeighbourFields) : Prop :=
  64 ≤ n.tolerance ∧ n.tolerance ≤ 4095 ∧ n.guardBefore ≤ 4095 ∧ n.guardAfter ≤ 4095 ∧ 1 ≤ n.protect ∧ n.protect ≤ 7

/-- An entry of the neighbour table (R87, R95, R96): its fields in range, and its miss expiry armed one interval and one
tolerance after its anchor. -/
def Neighbour.Legal (e : Neighbour) (tolerance : Nat) : Prop :=
  16 ≤ e.interval ∧ e.interval ≤ 1023 ∧ e.airtime ≤ 65535 ∧ 2 * e.missCount + e.confidence ≤ 7 ∧ e.misaligned ≤ 2 ∧
    e.expiry = e.anchor + BitVec.ofNat 32 (e.interval * 1024 + tolerance)

/-- The Neighbour Schedule (R87): every entry legal, no two entries with one address, and the settings held and on their way
in their ranges. -/
def Schedule.Inv (h : Schedule) : Prop :=
  (∀ i : Fin 8, ∀ e, h.slots[i] = some e → e.Legal h.settings.tolerance) ∧
    (∀ i j : Fin 8, ∀ e f, h.slots[i] = some e → h.slots[j] = some f → e.address = f.address → i = j) ∧
    h.settings.Legal ∧ (∀ n, ScheduleRequest.settings n ∈ h.requests → n.Legal) ∧
    ∀ u b n, ScheduleRequest.update u b ∈ h.requests → u.airtime = some n → n ≤ 65535

/-- An entry of the pending transmit list (R123, R128): its rewrite agrees with its decision. -/
def PendingEntry.Legal (e : PendingEntry) : Prop :=
  (e.notBefore ≠ none ↔ e.decision = .defer ∨ e.decision = .narrowDefer) ∧ e.notBefore ≠ some 0#32 ∧
    (e.decision = .narrow ∨ e.decision = .narrowDefer →
      e.fingerprint.width = .mhz40 ∧ e.fingerprint.narrowable = true ∧ e.width = .mhz20) ∧
    (e.decision = .pass ∨ e.decision = .defer → e.width = e.fingerprint.width) ∧
    (e.fingerprint.pinned = true → e.decision = .pass ∧ e.reason = .pinned) ∧
    e.plannedEnd = e.plannedStart + BitVec.ofNat 32 e.airtime ∧ e.airtime ≤ 65535

/-- The pending transmit list and the admission in progress (R105, R128): at most 16 entries, never two for one index nor one
for the index being judged, every entry legal, and an admission only while a TX-DMA read is in service. -/
def State.PendingInv (s : State) : Prop :=
  s.rewriter.entries.length ≤ 16 ∧ (s.rewriter.entries.map PendingEntry.index).Nodup ∧
    (∀ e ∈ s.rewriter.entries, e.Legal) ∧ s.admission.relief ≤ 15 ∧
    ∀ v, s.admission.inProgress = some v →
      (∀ e ∈ s.rewriter.entries, e.index ≠ v.index) ∧ ∃ a b, s.bus.service = some (.descriptors a b)

/-- In UNCONFIGURED the pending transmit list is empty, no admission is in progress, and none waits behind a held descriptor
(R128, R140). -/
def State.UnconfiguredPending (s : State) : Prop :=
  s.policy.mode = .unconfigured → s.rewriter.entries = [] ∧ s.admission.inProgress = none ∧
    ∀ a b, s.bus.service = some (.descriptors a b) → ∀ i d x, Piece.sampled i d x ∉ b

/-- In UNCONFIGURED the pending transmit list, the neighbour table and the FIFO are empty, no beacon update waits, and no record
of a write in service is left to cut out (R6, R66, R87, R102). -/
def State.UnconfiguredEmpty (s : State) : Prop :=
  s.UnconfiguredPending ∧
    (s.policy.mode = .unconfigured → (∀ i : Fin 8, s.schedule.slots[i] = none) ∧ s.intake.fifo = [] ∧ s.intake.fold = none ∧
      (∀ u b, ScheduleRequest.update u b ∉ s.schedule.requests) ∧ ∀ a l, s.bus.service ≠ some (.records a l))

/-- The RADIO fields in their ranges (R150). -/
def RadioFields.Legal (r : RadioFields) : Prop :=
  (∀ c, r.channel = some c → 1 ≤ c ∧ c ≤ 14) ∧ (r.width = .mhz20 ↔ r.secondary = .none) ∧
    16 ≤ r.preamble ∧ r.preamble ≤ 255 ∧ r.latency ≤ 255 ∧ r.access ≤ 4095

/-- The SHAPING fields in their ranges (R155). -/
def ShapingFields.Legal (h : ShapingFields) : Prop :=
  h.holdLimit ≤ 16383 ∧ h.reliefCount ≤ 15 ∧ h.acceptLevel ≤ 255 ∧ 1 ≤ h.timeoutMs ∧ h.timeoutMs ≤ 255

/-- A shift of an evidence step in its range (R153). -/
def shiftLegal (k : Nat) : Prop := 1 ≤ k ∧ k ≤ 7

/-- The MAP fields in their ranges (R153). -/
def MapFields.Legal (m : MapFields) : Prop :=
  shiftLegal m.riseScan ∧ shiftLegal m.fallScan ∧ shiftLegal m.riseCorrupt ∧ shiftLegal m.fallClean ∧
    shiftLegal m.riseFail ∧ shiftLegal m.fallSuccess ∧ -128 ≤ m.hitLevel ∧ m.hitLevel ≤ 127 ∧ m.busyMinimum ≤ 255 ∧
    m.settings.Legal

/-- An accepted set of windows (R3, R149): aligned, counted within limits, below the 16 MiB limit, and such that no address
lies in two of them. -/
def Windows.Legal (w : Windows) : Prop :=
  w.tx.base % 32 = 0 ∧ w.rx.base % 16 = 0 ∧ w.spectral.base % 32 = 0 ∧ w.report % 512 = 0 ∧
    1 ≤ w.tx.count ∧ w.tx.count ≤ 1024 ∧ 1 ≤ w.rx.count ∧ w.rx.count ≤ 1024 ∧ 1 ≤ w.spectral.count ∧
    w.spectral.count ≤ 256 ∧ w.tx.base + 32 * w.tx.count ≤ 16777216 ∧ w.rx.base + 16 * w.rx.count ≤ 16777216 ∧
    w.spectral.base + 32 * w.spectral.count ≤ 16777216 ∧ w.report + 512 ≤ 16777216 ∧
    ∀ a, [w.tx.holds 32 a, w.rx.holds 16 a, w.spectral.holds 32 a, w.inReport a].count true ≤ 1

/-- The Policy Unit (R149 to R158) with the copies other blocks keep of its fields (R152, R172): every field in its range, the
received-kinds set full exactly outside UNCONFIGURED, and the keep-alive counter 1 or more in ACTIVE and 0 elsewhere. -/
def State.PolicyInv (s : State) : Prop :=
  s.policy.radio.Legal ∧ s.policy.map.Legal ∧ s.policy.neighbour.Legal ∧ s.policy.shaping.Legal ∧
    (∀ c : Fin 16, s.policy.rates.d20[c] ≤ 2047 ∧ s.policy.rates.d40[c] ≤ 2047) ∧
    (∀ w, s.bus.windows = some w → w.Legal) ∧
    (s.policy.received = 0xFF#8 ↔ s.policy.mode ≠ .unconfigured) ∧
    (s.policy.mode = .active → 1 ≤ s.policy.keepaliveCounter ∧ s.policy.keepaliveCounter ≤ 255) ∧
    (s.policy.mode ≠ .active → s.policy.keepaliveCounter = 0) ∧
    1 ≤ s.policy.keepalivePeriod ∧ s.policy.keepalivePeriod ≤ 255 ∧
    1 ≤ s.policy.coastLimit ∧ s.policy.coastLimit ≤ 15 ∧
    s.report.win = s.policy.win ∧ s.policy.win.lead ≤ 4095 ∧
    s.tracker.edgeMode = s.policy.edgeMode ∧ s.tracker.coastLimit = s.policy.coastLimit

/-- The Report Unit and the outlier run (R25, R164, R166, R168): counters within 0..65,535, flags 10..15 clear, ATTN
following flags and enables. -/
def State.ReportInv (s : State) : Prop :=
  (∀ c : Counter, s.counter c ≤ 65535) ∧ (∀ n, 10 ≤ n → s.report.flags.getLsbD n = false) ∧
    (s.report.attn = true ↔ ∃ n, s.report.flags.getLsbD n = true ∧ s.report.enables.getLsbD n = true) ∧
    s.air.outlierRun ≤ 3

end Sys2Proof.Machine
end

