-- ==== Sys2Proof/Certificates/Slice0/Obligations.lean ====
section
/-! DEFINITION. The statements for the provers, in the order of OBLIGATIONS.json. Each docstring is the statement in words; the
rules it rests on are its "cites" there. -/

open Sys2Proof Sys2Proof.Machine

/-- For every command c and state s with c at the front of the queue, step s is exec c on s with the queue's rest. On an
empty queue the part idles: step answers s itself. The queue and the idle step are the model's (log entry 2); the spec
gives the commands. -/
def Obligations.StepTakesTheFrontCommand : Prop :=
  (∀ (c : Instr) (rest : List Instr) (s : State), s.pending = c :: rest → step s = exec c { s with pending := rest }) ∧
    ∀ s : State, s.pending = [] → step s = .next s

/-- No command faults or is refused in any state. For a transfer this is the bus's rule: it carries no error response
and every transfer ends. That a command also answers in a state in which its event is not due or not possible is the
model's choice (log entry 3), and so is the queue of waiting commands (log entries 2 and 15), which is no part of the
CV-31 and which no command changes. -/
def Obligations.EveryCommandAnswersAndLeavesTheQueue : Prop :=
  ∀ (c : Instr) (s : State), ∃ t, exec c s = .next t ∧ t.pending = s.pending

/-- After any command in any state, ATTN is asserted exactly when at least one of the 16 flags is set whose enable is
set. -/
def Obligations.AttnFollowsFlagsAndEnables : Prop :=
  ∀ (c : Instr) (s t : State), exec c s = .next t →
    (t.report.attn = true ↔
      ∃ n, n < 16 ∧ t.report.flags.getLsbD n = true ∧ t.report.enables.getLsbD n = true)

/-- After any command, WIN is at its active level exactly when WIN is enabled, the mode is STANDBY or ACTIVE, phase is
available, and the burst condition holds or the neighbour option is set and the neighbour condition holds; active-high
drives it high when active and active-low the reverse; while RESET is asserted it is low. The premise that every entry's
interval and the period are positive is part of ScheduleStaysLegal and TrackerStaysLegal. Windows are placed as log
entry 10 says, a choice of the model. -/
def Obligations.WinFollowsItsConditions : Prop :=
  ∀ (c : Instr) (s t : State), exec c s = .next t →
    (∀ i : Fin 8, ∀ e, t.schedule.slots[i] = some e → 1 ≤ e.interval) → (∀ p, t.tracker.period = some p → 1 ≤ p) →
      (t.bus.resetAsserted = true → t.report.winHigh = false) ∧
      (t.bus.resetAsserted = false → t.report.win.activeLow = false → (t.report.winHigh = true ↔ WinHolds t)) ∧
      (t.bus.resetAsserted = false → t.report.win.activeLow = true → (t.report.winHigh = true ↔ ¬ WinHolds t))

/-- The state after a pin reset: Air Time 0xFFFFFC00, offset 0, UNALIGNED, outlier run 0; tracker OFF with nothing held;
empty FIFO; every cell and snapshot score 0, settings 255, 0, 1; eight FREE slots, tolerance 64, guards 0, protect level
1; relief 0; empty pending list; the policy values of section 9.2, mode UNCONFIGURED; flags, enables and counters 0; no
windows; ATTN released and WIN low. -/
def Obligations.ResetValues : Prop :=
  State.reset.air.airTime = 4294966272#32 ∧ State.reset.air.offset = 0#32 ∧ State.reset.air.aligned = false ∧
    State.reset.air.outlierRun = 0 ∧
    State.reset.tracker.edgeMode = .off ∧ State.reset.tracker.coastLimit = 1 ∧ State.reset.tracker.lockState = .off ∧
    State.reset.tracker.period = none ∧ State.reset.tracker.ref = none ∧ State.reset.tracker.lastAccepted = none ∧
    State.reset.tracker.role = .reference ∧ State.reset.tracker.lockCount = 0 ∧ State.reset.tracker.coastCount = 0 ∧
    State.reset.tracker.relockMark = false ∧ State.reset.tracker.expiry = none ∧
    State.reset.intake.fifo = [] ∧ State.reset.intake.fold = none ∧ State.reset.intake.lastSequence = none ∧
    (∀ i : Fin 256, State.reset.map.cells[i] = 0 ∧ State.reset.map.snapshot[i] = 0) ∧ State.reset.map.cycleAge = 0 ∧
    State.reset.map.hotCount = 0 ∧ State.reset.map.settings = { hotLevel := 255, agePeriod := 0, ageShift := 1 } ∧
    State.reset.map.requests = [] ∧ State.reset.map.sequence = 0 ∧
    (∀ i : Fin 8, State.reset.schedule.slots[i] = none) ∧ State.reset.schedule.requests = [] ∧
    State.reset.schedule.settings = { tolerance := 64, guardBefore := 0, guardAfter := 0, protect := 1 } ∧
    State.reset.admission = { relief := 0, inProgress := none } ∧ State.reset.rewriter.entries = [] ∧
    State.reset.policy.radio =
      { channel := none, width := .mhz20, secondary := .none, preamble := 16, latency := 0, access := 0 } ∧
    (∀ c : Fin 16, State.reset.policy.rates.d20[c] = 0 ∧ State.reset.policy.rates.d40[c] = 0) ∧
    State.reset.policy.edgeMode = .off ∧ State.reset.policy.coastLimit = 1 ∧
    State.reset.policy.map =
      { riseScan := 1, fallScan := 1, riseCorrupt := 1, fallClean := 1, riseFail := 1, fallSuccess := 1, hitLevel := 127
        busyMinimum := 255, corruptedOn := false, cleanOn := false, feedbackOn := false
        settings := { hotLevel := 255, agePeriod := 0, ageShift := 1 } } ∧
    State.reset.policy.neighbour = { tolerance := 64, guardBefore := 0, guardAfter := 0, protect := 1 } ∧
    State.reset.policy.shaping = { holdLimit := 0, reliefCount := 0, acceptLevel := 255, timeoutMs := 1 } ∧
    State.reset.policy.win = { lead := 0, activeLow := false, enable := false, neighbourOption := false } ∧
    State.reset.policy.received = 0#8 ∧ State.reset.policy.mode = .unconfigured ∧
    State.reset.policy.keepalivePeriod = 1 ∧ State.reset.policy.keepaliveCounter = 0 ∧
    State.reset.policy.lastAcceptedKind = 0#8 ∧ State.reset.policy.lastAcceptedSequence = 0#8 ∧
    State.reset.policy.lastRejectedSequence = 0#8 ∧ State.reset.policy.lastRejectedReason = .none ∧
    State.reset.report.flags = 0#16 ∧ State.reset.report.enables = 0#16 ∧ (∀ c : Counter, State.reset.counter c = 0) ∧
    State.reset.report.win = { lead := 0, activeLow := false, enable := false, neighbourOption := false } ∧
    State.reset.report.attn = false ∧ State.reset.report.winHigh = false ∧
    State.reset.bus.windows = none ∧ State.reset.bus.service = none

/-- From every state, asserting RESET gives the state after reset with Air Time held at 0xFFFFFC00, and what is left of
the transfer in service passes through: the words of a report read carry memory data; a held descriptor, what waits
behind it and what has not returned follow as memory returns them, in address order; the words of a write that memory
has not accepted, completion words and records among them, go to memory as they arrived. That this remainder passes
whole within PIN_RESET, and not while RESET stays asserted, is the model's choice (log entry 13). The level of the MAINS
input stays by the model's convention (log entry 8), and so does the queue of commands (log entries 2 and 15). -/
def Obligations.PinResetReturnsEveryBlock : Prop :=
  ∀ s : State, ∃ t, exec .pinReset s = .next t ∧ t.air.airTime = 4294966272#32 ∧
    t = { State.reset with
      tracker := { State.reset.tracker with mainsHigh := s.tracker.mainsHigh }
      bus := { State.reset.bus with mPort := t.bus.mPort, uPort := t.bus.uPort, resetAsserted := true }
      pending := s.pending } ∧
    (s.bus.service = none → t.bus.uPort = s.bus.uPort) ∧
    ((∀ rest, s.bus.service ≠ some (.completions rest)) → (∀ arrival rest, s.bus.service ≠ some (.records arrival rest)) →
      t.bus.mPort = s.bus.mPort) ∧
    (∀ left, (∃ rest, s.bus.service = some (.completions rest) ∧ left = rest.map Prod.snd) ∨
        (∃ arrival rest, s.bus.service = some (.records arrival rest) ∧ left = rest.map Prod.snd) →
      t.bus.uPort = s.bus.uPort ∧
      ∀ f, s.bus.mPort = some f → t.bus.mPort = some { f with words := f.words ++ left }) ∧
    (∀ rest, s.bus.service = some (.report rest) → t.bus.uPort = s.bus.uPort ++ rest.map Prod.snd) ∧
    ∀ a b, s.bus.service = some (.descriptors a b) →
      (∀ v, s.admission.inProgress = some v →
        t.bus.uPort = s.bus.uPort ++ (v.words.toList ++ b.flatMap Piece.words ++ a.flatMap Segment.words)) ∧
      (s.admission.inProgress = none → t.bus.uPort = s.bus.uPort ++ (b.flatMap Piece.words ++ a.flatMap Segment.words))

/-- RESET_RELEASE changes nothing but the RESET line. While RESET is asserted AIR_TIME_ADVANCE changes nothing.
Otherwise it adds 1 to Air Time modulo 2^32, keeps the offset and begins the observation of transfers; with no tick and
no expiry due it changes nothing else, and a ten-millisecond tick is raised exactly when the new Air Time is a multiple
of 10,000. With some due, AIR_TIME_ADVANCE first takes what the present microsecond still owes, in the order that log
entry 4 chooses: it does what TEN_MILLISECOND_TICK, then COAST_EXPIRY and LOCK_EXPIRY (of which the lock state lets one
act), then STALE_EXPIRY of each pending entry from the oldest on, then MISS_EXPIRY of slots 0 to 7 do one after the
other, each acting only when it is due, and then advances Air Time and changes nothing else. -/
def Obligations.ReleaseAndTheMicrosecond : Prop :=
  (∀ s : State, ∃ t, exec .resetRelease s = .next t ∧ t.bus = { s.bus with resetAsserted := false } ∧
      OnlyIn [.bus, .report] s t ∧ Reported [] [] s t) ∧
    (∀ s : State, s.bus.resetAsserted = true → ∃ t, exec .airTimeAdvance s = .next t ∧ OnlyIn [.report] s t ∧
      Reported [] [] s t) ∧
    (∀ s : State, s.bus.resetAsserted = false → ∃ u t,
      Ran (.tenMillisecondTick :: .coastExpiry :: .lockExpiry :: s.rewriter.entries.map (fun e => .staleExpiry e.index) ++
        (List.finRange 8).map .missExpiry) s u ∧
      exec .airTimeAdvance s = .next t ∧ OnlyIn [.air, .bus, .report] u t ∧ Reported [] [] u t) ∧
    ∀ s : State, s.bus.resetAsserted = false → ∃ t, exec .airTimeAdvance s = .next t ∧
      t.air.airTime = s.air.airTime + 1#32 ∧ t.air.offset = s.air.offset ∧ t.air.aligned = s.air.aligned ∧
      t.air.outlierRun = s.air.outlierRun ∧ (t.air.tickDue = true ↔ (s.air.airTime + 1#32).toNat % 10000 = 0) ∧
      t.bus = { s.bus with observing := true } ∧
      (NothingDue s → OnlyIn [.air, .bus, .report] s t ∧ Reported [] [] s t)

/-- With a tick raised, TEN_MILLISECOND_TICK takes it: in ACTIVE with the counter at 2 or more the counter decreases by
1; in ACTIVE with the counter at 1 the keep-alive expires, and KEEPALIVE_EXPIRY is that same event: the mode becomes
STANDBY, the counter 0, KEEPALIVE_EXPIRED is set and the keep-alive-expired counter counts 1; in the other modes the
counter stays. Nothing else changes. A second tick command at the same Air Time finds no tick, by the model's mark (log
entry 3). -/
def Obligations.TickRunsTheKeepalive : Prop :=
  ∀ s : State, s.air.tickDue = true →
    (s.policy.mode = .active → 2 ≤ s.policy.keepaliveCounter → ∃ t, exec .tenMillisecondTick s = .next t ∧
      t.policy = { s.policy with keepaliveCounter := s.policy.keepaliveCounter - 1 } ∧
      t.air = { s.air with tickDue := false } ∧ OnlyIn [.air, .policy, .report] s t ∧ Reported [] [] s t) ∧
    (s.policy.mode = .active → s.policy.keepaliveCounter = 1 → ∀ c, c = .tenMillisecondTick ∨ c = .keepaliveExpiry →
      ∃ t, exec c s = .next t ∧ t.policy = { s.policy with mode := .standby, keepaliveCounter := 0 } ∧
      t.air = { s.air with tickDue := false } ∧ OnlyIn [.air, .policy, .report] s t ∧
      Reported [.keepaliveExpired] [.keepaliveExpired] s t) ∧
    (s.policy.mode ≠ .active → ∃ t, exec .tenMillisecondTick s = .next t ∧ t.air = { s.air with tickDue := false } ∧
      OnlyIn [.air, .report] s t ∧ Reported [] [] s t)

/-- A sample s taken in ALIGNED forms the error e = s - O, modulo 2^32 and read signed. If e lies in -32..32, O becomes
O + trunc(e / 4) modulo 2^32 and the outlier run 0: the offset moves by at most 8, an error of -3..3 leaves it as it
was, and nothing else changes. Any other error, -2147483648 among them, is an outlier: O stays and the run increases by
1, and nothing else changes; when that would bring the run to 4, O becomes s, the run 0, TIME_STEPPED is set and the
step counter counts 1, held at 65,535. The run stays within 0..3, and no report word shows it. Pin reset, RESTART and a
CLEAR record with the counters bit set the step counter to 0. -/
def Obligations.InWindowSampleSlewsTheOffset : Prop :=
  (∀ (s : State) (x : Word), s.air.aligned = true →
    (-32 ≤ (x - s.air.offset).toInt → (x - s.air.offset).toInt ≤ 32 →
      (s.takeSample x).air = { s.air with
        offset := s.air.offset + BitVec.ofInt 32 (Int.tdiv (x - s.air.offset).toInt 4), outlierRun := 0 } ∧
      -8 ≤ ((s.takeSample x).air.offset - s.air.offset).toInt ∧ ((s.takeSample x).air.offset - s.air.offset).toInt ≤ 8 ∧
      (-3 ≤ (x - s.air.offset).toInt → (x - s.air.offset).toInt ≤ 3 → (s.takeSample x).air.offset = s.air.offset) ∧
      OnlyIn [.air] s (s.takeSample x)) ∧
    ((x - s.air.offset).toInt < -32 ∨ 32 < (x - s.air.offset).toInt →
      (s.air.outlierRun < 3 → (s.takeSample x).air = { s.air with outlierRun := s.air.outlierRun + 1 } ∧
        OnlyIn [.air] s (s.takeSample x)) ∧
      (s.air.outlierRun = 3 → (s.takeSample x).air = { s.air with offset := x, outlierRun := 0 } ∧
        OnlyIn [.air, .report] s (s.takeSample x) ∧ Reported [.timeStepped] [.step] s (s.takeSample x))) ∧
    (s.air.outlierRun ≤ 3 → (s.takeSample x).air.outlierRun ≤ 3)) ∧
  (∀ (s : State) (n k : Nat), State.reportWord { s with air.outlierRun := n } k = s.reportWord k) ∧
  (∀ s : State, ∃ t, exec .pinReset s = .next t ∧ t.counter .step = 0) ∧
  ∀ (s : State) (addr : Addr) (body : RecordBody), TakesRecord s addr →
    ((recordFrame 12#8 body).sum = 0#32 → ∃ t, exec (.restart addr body) s = .next t ∧ t.counter .step = 0) ∧
    ((clearFrame 2 body).sum = 0#32 → ∃ t, exec (.clearCounters addr body) s = .next t ∧ t.counter .step = 0)

/-- In UNALIGNED a sample s sets O to s, the state to ALIGNED and the outlier run to 0, with no flag and no count. In
ALIGNED a sample whose error lies outside -32..32 leaves O and adds 1 to the run; when that would bring the run to 4, O
becomes the sample, the run 0, TIME_STEPPED is set and the step counter counts 1. The sample of a RECEIVE entry is its
frame end less (its arrival time less the intake latency), modulo 2^32, and it is taken when the entry's fold begins;
the fold then holds the offset that it left and ALIGNED. -/
def Obligations.FirstSampleAlignsAndOutliersStep : Prop :=
  (∀ (s : State) (x : Word), s.air.aligned = false →
      (s.takeSample x).air = { s.air with offset := x, aligned := true, outlierRun := 0 } ∧
      OnlyIn [.air] s (s.takeSample x)) ∧
    (∀ (s : State) (x : Word), s.air.aligned = true →
      (x - s.air.offset).toInt < -32 ∨ 32 < (x - s.air.offset).toInt →
      (s.air.outlierRun < 3 → (s.takeSample x).air = { s.air with outlierRun := s.air.outlierRun + 1 } ∧
        OnlyIn [.air] s (s.takeSample x)) ∧
      (s.air.outlierRun = 3 → (s.takeSample x).air = { s.air with offset := x, outlierRun := 0 } ∧
        OnlyIn [.air, .report] s (s.takeSample x) ∧ Reported [.timeStepped] [.step] s (s.takeSample x))) ∧
    ∀ (s : State) (e : ReceiveEntry) (m n : Bool) (rest : List Entry), s.intake.fold = none →
      s.intake.fifo = { body := .receive e, voidMap := m, voidNeighbour := n } :: rest →
      s.startFold.air =
        (s.takeSample (e.frameEnd - (e.arrival - BitVec.ofNat 32 s.policy.radio.latency))).air ∧
      ∃ f, s.startFold.intake.fold = some f ∧ f.handedOn = false ∧ f.context.offset = s.startFold.air.offset ∧
        f.context.aligned = true

/-- Every write taken at the U-port leaves the M-port with its address, direction, length, tag, byte enables and data as
they arrived, in every state, and nothing is delivered upstream. Only a TX-DMA or RX-DMA write taken while transfers are
observed in STANDBY or ACTIVE can stay in service: its words from the first completion word, or from the last word of
its first record on, each as it arrived, wait (log entry 5), and each COMPLETION_CANDIDATE or RECEIVE_RECORD_INTAKE
sends the next such word and the words behind it up to the one after. Of a TX-DMA write every word keeps its byte
enables and its bits 23:0; its data may differ only in a completion word and only where the enable of byte 3 is set. The
words of an RX-DMA write are sent unchanged. The write ends when no word is left. -/
def Obligations.WritesReachMemoryAsTheyArrived : Prop :=
  (∀ (s : State) (tag : Tag) (addr : Addr) (words : List WriteWord), s.bus.service = none →
    ∃ t sent, exec (.transfer (.write tag addr words)) s = .next t ∧ t.bus.uPort = [] ∧
      t.bus.mPort = some { write := true, tag := tag, addr := addr, length := words.length, words := sent } ∧
      (t.bus.service = none → sent = words) ∧
      (t.bus.service ≠ none → s.bus.observing = true ∧ s.policy.mode ≠ .unconfigured ∧ s.bus.windows ≠ none ∧
        ((tag = .txDma ∧ ∃ i a rest, t.bus.service = some (.completions ((some i, a) :: rest)) ∧
            words = sent ++ a :: rest.map Prod.snd) ∨
          (tag = .rxDma ∧ ∃ r a rest, t.bus.service = some (.records s.air.airTime ((some r, a) :: rest)) ∧
            words = sent ++ a :: rest.map Prod.snd)))) ∧
    (∀ (s : State) (addr : Addr) (f : Forwarded) (arrival : Time) (left : List (Option IntakeRecord × WriteWord)),
      s.bus.service = some (.records arrival left) → s.bus.mPort = some f → left ≠ [] →
      ∃ t n, exec (.receiveRecordIntake addr .next) s = .next t ∧ t.bus = { s.bus with
          mPort := some { f with words := f.words ++ (left.take n).map Prod.snd }
          service := if left.drop n = [] then none else some (.records arrival (left.drop n)) } ∧
        ((∃ r a rest, left = (some r, a) :: rest) → 1 ≤ n ∧ ∀ x, (left.drop n).head? = some x → x.1 ≠ none)) ∧
    ∀ (s : State) (addr : Addr) (f : Forwarded) (left : List (Option Nat × WriteWord)), s.bus.service = some (.completions left) →
      s.bus.mPort = some f → left ≠ [] → ∃ t now later, exec (.completionCandidate addr .next) s = .next t ∧
        t.bus.uPort = s.bus.uPort ∧ t.bus.mPort = some { f with words := f.words ++ now } ∧
        left.drop now.length = later ∧ now.length + later.length = left.length ∧
        t.bus.service = (if later = [] then none else some (.completions later)) ∧
        ((∃ i a rest, left = (some i, a) :: rest) → 1 ≤ now.length ∧ ∀ x, later.head? = some x → x.1 ≠ none) ∧
        ∀ j a b, left[j]? = some a → now[j]? = some b → b.enables = a.2.enables ∧
          b.data.extractLsb' 0 24 = a.2.data.extractLsb' 0 24 ∧
          (b.data ≠ a.2.data → j = 0 ∧ a.1 ≠ none ∧ a.2.enables.getLsbD 3 = true)

/-- With no transfer in service, a transfer taken before observation begins, any transfer of tag OTHER, an RX-DMA read,
a CPU read with no word in the report area, and a TX-DMA read with no word in the TX ring leave the M-port as they
arrived, deliver what memory returns, and change no other state. So does a TX-DMA write taken in UNCONFIGURED, or whose
words 4 of descriptors have byte 0 disabled or done clear. A transfer presented while another is in service is not taken
and changes nothing, and neither does the form next of a command while no transfer is in service (log entry 3). -/
def Obligations.OtherTransfersPassThrough : Prop :=
  (∀ (s : State) (tag : Tag) (addr : Addr) (ws : List Word), s.bus.service = none → s.admission.inProgress = none →
      s.bus.observing = false ∨ tag = .other ∨ tag = .rxDma ∨
        (tag = .cpu ∧ ∀ w i, s.bus.windows = some w → i < ws.length → w.inReport (addr.toNat + 4 * i) = false) ∨
        (tag = .txDma ∧ ∀ w i, s.bus.windows = some w → i < ws.length → w.tx.holds 32 (addr.toNat + 4 * i) = false) →
      ∃ t, exec (.transfer (.read tag addr ws)) s = .next t ∧
        t.bus = { s.bus with
          mPort := some { write := false, tag := tag, addr := addr, length := ws.length, words := [] }, uPort := ws } ∧
        OnlyIn [.bus, .report] s t ∧ Reported [] [] s t) ∧
    (∀ (s : State) (tag : Tag) (addr : Addr) (words : List WriteWord), s.bus.service = none →
      s.bus.observing = false ∨ tag = .other →
      ∃ t, exec (.transfer (.write tag addr words)) s = .next t ∧
        t.bus = { s.bus with
          mPort := some { write := true, tag := tag, addr := addr, length := words.length, words := words }, uPort := [] } ∧
        OnlyIn [.bus, .report] s t ∧ Reported [] [] s t) ∧
    (∀ (s : State) (addr : Addr) (words : List WriteWord), s.bus.service = none →
      s.policy.mode = .unconfigured ∨ (∀ w i a, s.bus.windows = some w → words[i]? = some a →
        w.tx.holds 32 (addr.toNat + 4 * i) = true → (addr.toNat + 4 * i - w.tx.base) % 32 / 4 = 4 →
        a.enables.getLsbD 0 = false ∨ a.data.getLsbD 1 = false) →
      ∃ t, exec (.completionCandidate addr (.take words)) s = .next t ∧
        t.bus = { s.bus with
          mPort := some { write := true, tag := .txDma, addr := addr, length := words.length, words := words }
          uPort := [] } ∧ OnlyIn [.bus, .report] s t ∧ Reported [] [] s t) ∧
    (∀ (s : State) (x : Transfer), s.bus.service ≠ none → ∃ t, exec (.transfer x) s = .next t ∧ OnlyIn [.report] s t ∧
      Reported [] [] s t) ∧
    ∀ (s : State) (addr : Addr) (c : Instr), s.bus.service = none →
      c ∈ [.descriptorRead .next, .reportRead .next, .completionCandidate addr .next, .receiveRecordIntake addr .next] →
      ∃ t, exec c s = .next t ∧ OnlyIn [.report] s t ∧ Reported [] [] s t

/-- With no read in service and transfers observed, a CPU read with a word in the report area is taken as a report read:
it goes to memory, and nothing else changes. Each word is then delivered in turn: in the report area the report word of
its index as it stands at that delivery, elsewhere what memory returned. After the last word the read closes; a snapshot
request in service at the Map, which the open read held back, then makes its copy, and nothing else changes. Which
command delivers a word is the model's reading of the table (log entry 5). -/
def Obligations.ReportReadIsTakenAndDelivered : Prop :=
  (∀ (s : State) (addr : Addr) (ws : List Word) (w : Windows) (i : Nat), s.bus.service = none → s.bus.observing = true →
      s.bus.windows = some w → i < ws.length → w.inReport (addr.toNat + 4 * i) = true →
      ∃ t, exec (.reportRead (.take addr ws)) s = .next t ∧
        t.bus = { s.bus with
          mPort := some { write := false, tag := .cpu, addr := addr, length := ws.length, words := [] }, uPort := []
          service := some (.report (((List.range ws.length).map fun j => addr.toNat + 4 * j).zip ws)) } ∧
        OnlyIn [.bus, .report] s t ∧ Reported [] [] s t) ∧
    ∀ (s : State) (a : Nat) (d : Word) (rest : List (Nat × Word)) (w : Windows),
      s.bus.service = some (.report ((a, d) :: rest)) → s.bus.windows = some w →
      ∃ t, exec (.reportRead .next) s = .next t ∧
        t.bus = { s.bus with
          uPort := s.bus.uPort ++ [if w.inReport a = true then s.reportWord ((a - w.report) / 4) else d]
          service := if rest = [] then none else some (.report rest) } ∧ Reported [] [] s t ∧
        (rest ≠ [] ∨ s.map.requests.head? ≠ some .snapshot → OnlyIn [.bus, .report] s t) ∧
        ∀ more, rest = [] → s.map.requests = .snapshot :: more → OnlyIn [.map, .bus, .report] s t ∧
          t.map = { s.map with requests := more, snapshot := s.map.cells, sequence := (s.map.sequence + 1) % 256 }

/-- The codes of the mode, the lock state, the edge mode and the reject reasons, the counters' slots and the flags'
numbers are those of the tables. In every state: word 0 is 0x0C310100, word 2 Air Time, word 3 the offset, word 4 the
period (0 while absent), word 5 the reference (0 while absent); words 1, 6, 7, 8 and 9 hold their fields at their bits;
counter slot n is the low half of word 10 + n/2 when n is even and the high half when odd, and slots 40..43 read 0;
words 32 + b hold the snapshot scores of bin b, slice 0 lowest; words 96 + 4n to 99 + 4n hold slot n's entry, and 0 when
it is FREE; the bits that no field occupies read 0. -/
def Obligations.ReportWordLayout : Prop :=
  [Mode.unconfigured, .standby, .active].map Mode.code = [0, 1, 2] ∧
  [LockState.off, .seeking, .locking, .locked, .coasting, .lost].map LockState.code = [0, 1, 2, 3, 4, 5] ∧
  [EdgeMode.off, .rising, .falling, .both].map EdgeMode.code = [0, 1, 2, 3] ∧
  [RejectReason.none, .unknownKind, .windowAlign, .windowZero, .windowCount, .windowRange, .windowOverlap, .channel, .width,
    .secondary, .keepaliveValue, .notReady].map RejectReason.code = [0, 1, 2, 3, 4, 5, 6, 7, 8, 9, 10, 11] ∧
  [Flag.policyAccepted, .policyRejected, .lockGained, .lockLost, .intakeOverflow, .pendingEvicted, .keepaliveExpired,
    .timeStepped, .neighbourFull, .mapHot].map Flag.number = [0, 1, 2, 3, 4, 5, 6, 7, 8, 9] ∧
  [Counter.partialRecord, .checksumFail, .step, .acceptedEdge, .glitch, .periodFault, .intakeDrop, .malformedRecord,
    .ignoredKind, .offChannel, .unphasedEvidence, .spectralGap, .foreignOther, .intervalRange, .reAnchor, .neighbourRefused,
    .neighbourReplaced, .neighbourExpired, .passDecisions, .narrowDecisions, .deferDecisions, .narrowDeferDecisions,
    .clearReasons, .pinnedReasons, .unalignedReasons, .badfieldReasons, .farReasons, .nowindowReasons, .reliefReasons,
    .shapedReasons, .repeated, .superseded, .evicted, .abandoned, .stale, .matched, .untracked, .reject, .clamp,
    .keepaliveExpired].map (fun c => c.slot.val) = List.range 40 ∧
  ∀ s : State,
    s.reportWord 0 = 0x0C310100#32 ∧ s.reportWord 2 = s.air.airTime ∧ s.reportWord 3 = s.air.offset ∧
    s.reportWord 4 = BitVec.ofNat 32 (s.tracker.period.getD 0) ∧ s.reportWord 5 = s.tracker.ref.getD 0#32 ∧
    (s.reportWord 1).extractLsb' 0 2 = BitVec.ofNat 2 s.policy.mode.code ∧
    (s.reportWord 1).extractLsb' 8 3 = BitVec.ofNat 3 s.tracker.lockState.code ∧
    (s.reportWord 1).getLsbD 16 = s.air.aligned ∧
    (s.reportWord 1).extractLsb' 24 2 = BitVec.ofNat 2 s.tracker.edgeMode.code ∧
    s.reportWord 1 &&& 0xFCFEF8FC#32 = 0#32 ∧
    (s.reportWord 6).extractLsb' 0 16 = s.report.flags ∧ (s.reportWord 6).extractLsb' 16 16 = s.report.enables ∧
    (s.reportWord 7).extractLsb' 0 4 = BitVec.ofNat 4 s.intake.fifo.length ∧
    ((s.reportWord 7).getLsbD 4 = true ↔ 4 ≤ s.intake.fifo.length) ∧
    (s.reportWord 7).extractLsb' 8 5 = BitVec.ofNat 5 s.rewriter.entries.length ∧
    (s.reportWord 7).extractLsb' 16 4 = BitVec.ofNat 4 (s.schedule.slots.toList.filter Option.isSome).length ∧
    (s.reportWord 7).extractLsb' 20 9 = BitVec.ofNat 9 s.map.hotCount ∧ s.reportWord 7 &&& 0xE000E0E0#32 = 0#32 ∧
    (s.reportWord 8).extractLsb' 0 8 = BitVec.ofNat 8 s.map.sequence ∧
    (s.reportWord 8).extractLsb' 8 8 = s.policy.lastAcceptedSequence ∧
    (s.reportWord 8).extractLsb' 16 8 = s.policy.lastRejectedSequence ∧
    (s.reportWord 8).extractLsb' 24 4 = s.policy.lastAcceptedKind.extractLsb' 0 4 ∧
    (s.reportWord 8).extractLsb' 28 4 = BitVec.ofNat 4 s.policy.lastRejectedReason.code ∧
    (s.reportWord 9).extractLsb' 0 8 = s.policy.received ∧
    (s.reportWord 9).extractLsb' 8 5 = BitVec.ofNat 5 s.tracker.coastCount ∧
    (s.reportWord 9).extractLsb' 16 4 = BitVec.ofNat 4 s.admission.relief ∧ s.reportWord 9 &&& 0xFFF0E000#32 = 0#32 ∧
    (∀ c : Counter, (s.reportWord (10 + c.slot.val / 2)).extractLsb' (16 * (c.slot.val % 2)) 16 =
      BitVec.ofNat 16 (s.counter c)) ∧ s.reportWord 30 = 0#32 ∧ s.reportWord 31 = 0#32 ∧
    (∀ b k, b < 64 → k < 4 →
      (s.reportWord (32 + b)).extractLsb' (8 * k) 8 = BitVec.ofNat 8 (scoreAt s.map.snapshot b k)) ∧
    ∀ n : Fin 8, (s.schedule.slots[n] = none → ∀ j, j < 4 → s.reportWord (96 + 4 * n.val + j) = 0#32) ∧
      ∀ e, s.schedule.slots[n] = some e →
        (s.reportWord (97 + 4 * n.val)).extractLsb' 0 16 ++ s.reportWord (96 + 4 * n.val) = e.address ∧
        (s.reportWord (97 + 4 * n.val)).extractLsb' 16 10 = BitVec.ofNat 10 e.interval ∧
        s.reportWord (98 + 4 * n.val) = e.anchor ∧
        (s.reportWord (99 + 4 * n.val)).extractLsb' 0 16 = BitVec.ofNat 16 e.airtime ∧
        (s.reportWord (99 + 4 * n.val)).extractLsb' 16 3 = BitVec.ofNat 3 e.confidence ∧
        (s.reportWord (99 + 4 * n.val)).extractLsb' 20 2 = BitVec.ofNat 2 e.missCount ∧
        (s.reportWord (99 + 4 * n.val)).extractLsb' 24 2 = BitVec.ofNat 2 e.misaligned ∧
        s.reportWord (97 + 4 * n.val) &&& 0xFC000000#32 = 0#32 ∧ s.reportWord (99 + 4 * n.val) &&& 0xFCC80000#32 = 0#32

/-- In STANDBY or ACTIVE, an RX-DMA write of one whole receive-status record is taken with its arrival time and the
record's element index, and goes to memory up to its last word. RECEIVE_RECORD_INTAKE then hands the next record of the
write in service to Intake and sends its last word, and the words up to the next record's last, as they arrived (log
entry 5). With a kind code of 0..4 and fewer than 8 entries held at that moment, a RECEIVE entry with the record's
fields and the transfer's arrival time joins the FIFO, marks clear; a FOLDING processor and everything else stay as they
were, and an IDLE one begins this fold at once: the alignment sample first, and then the values of the moment. With 8
entries held it is dropped: INTAKE_OVERFLOW is set and the intake-drop counter counts. A kind code of 5..7 counts as
ignored and forms no entry. Between the layout's fields the words are free. Bursts of records and partial ones are in
SpectralRecordIsTakenIn. -/
def Obligations.ReceiveRecordIsTakenIn : Prop :=
  (∀ (s : State) (w : Windows) (addr : Addr) (w0 w1 w2 w3 : Word), s.bus.service = none → s.bus.observing = true →
    s.bus.windows = some w → s.policy.mode ≠ .unconfigured →
    w.rx.base ≤ addr.toNat → (addr.toNat - w.rx.base) % 16 = 0 → addr.toNat + 16 ≤ w.rx.base + 16 * w.rx.count →
    addr.toNat + 16 ≤ 16777216 →
    ∃ t, exec (.receiveRecordIntake addr (.take ([w0, w1, w2, w3].map fun d => { data := d, enables := 0xF#4 }))) s = .next t ∧
      t.bus = { s.bus with
        mPort := some { write := true, tag := .rxDma, addr := addr, length := 4
                        words := [w0, w1, w2].map fun d => { data := d, enables := 0xF#4 } }
        uPort := []
        service := some (.records s.air.airTime [(some (.receive ((addr.toNat - w.rx.base) / 16) w0 w1 w2 w3),
          { data := w3, enables := 0xF#4 })]) } ∧
      OnlyIn [.bus, .report] s t ∧ Reported [] [] s t) ∧
  ∀ (s : State) (addr : Addr) (index : Nat) (w0 w1 w2 w3 : Word) (arrival : Time) (f : Forwarded) (a : WriteWord) (plain : List WriteWord)
      (later : List (Option IntakeRecord × WriteWord)),
      NextRecord (.receive index w0 w1 w2 w3) arrival f a plain later s →
    ∃ t, exec (.receiveRecordIntake addr .next) s = .next t ∧ RecordPassed arrival f a plain later s t ∧
      (5 ≤ (w1.extractLsb' 17 3).toNat → OnlyIn [.bus, .report] s t ∧ Reported [] [.ignoredKind] s t) ∧
      ∀ k, (k, (w1.extractLsb' 17 3).toNat) ∈ [(FrameKind.ownData, 0), (.ownOther, 1), (.foreignBeacon, 2),
          (.foreignOther, 3), (.corrupted, 4)] →
        (8 ≤ s.intake.fifo.length → OnlyIn [.bus, .report] s t ∧ Reported [.intakeOverflow] [.intakeDrop] s t) ∧
        (s.intake.fifo.length < 8 → ∃ e : ReceiveEntry,
          e = { arrival := arrival, frameEnd := w0, length := (w1.extractLsb' 0 12).toNat
                rate := (w1.extractLsb' 12 4).toFin, width := if w1.getLsbD 16 = true then .mhz40 else .mhz20, kind := k
                address := w3.extractLsb' 0 16 ++ w2, interval := (w3.extractLsb' 16 10).toNat } ∧
          t.intake.fifo = s.intake.fifo ++ [{ body := .receive e, voidMap := false, voidNeighbour := false }] ∧
          t.intake.lastSequence = s.intake.lastSequence ∧
          (s.intake.fold ≠ none → t.intake.fold = s.intake.fold ∧ OnlyIn [.intake, .bus, .report] s t ∧
            Reported [] [] s t) ∧
          (s.intake.fold = none → s.intake.fifo = [] →
            FoldBegun { body := .receive e, voidMap := false, voidNeighbour := false } [] [] s t ∧
            OnlyIn [.air, .intake, .bus, .report] s t))

/-- An RX-DMA write taken in STANDBY or ACTIVE goes to memory up to the last word it carries of its first record, and
the rest stays in service with the transfer's arrival time (log entry 5). Each record that the write touches is marked
at the last word the write carries of it: an element of the RX ring or of the spectral area, whole, and marked with its
element index, when the write carries all its words with every byte enable set, partly covered otherwise, at a write's
start and at its end alike; words in neither window, such as those past the ring's end, form no record, and a write of
none but such ends at once. Taking it changes nothing else. The bus carries word-aligned addresses alone (section 1.1),
and that the windows are legal is kept by PolicyStaysLegal. Each RECEIVE_RECORD_INTAKE then handles the next record in
address order as it arrives, whatever has happened since the one before it, such as the end of a fold, and sends its
words on unchanged. A whole spectral record with a span code of 20 or 40 and a duration of 1 or more joins a FIFO of
fewer than 8 entries as a SPECTRAL entry with the record's fields, and an IDLE processor begins its fold; it is dropped
at a full one; any other is malformed and counts. A partly covered record counts one partial record. In UNCONFIGURED no
record is cut and none counted. -/
def Obligations.SpectralRecordIsTakenIn : Prop :=
  (∀ (s : State) (w : Windows) (addr : Addr) (words : List WriteWord) (mark : Nat → Option IntakeRecord) (k : Nat),
      s.bus.service = none → s.bus.observing = true → s.bus.windows = some w → w.Legal → s.policy.mode ≠ .unconfigured →
      addr.toNat % 4 = 0 → RecordMarks w addr words mark → k ≤ words.length → (∀ j, j < k → mark j = none) → (k < words.length → mark k ≠ none) →
      ∃ t, exec (.receiveRecordIntake addr (.take words)) s = .next t ∧
        t.bus = { s.bus with
          uPort := []
          mPort := some { write := true, tag := .rxDma, addr := addr, length := words.length, words := words.take k }
          service := if k = words.length then none else
            some (.records s.air.airTime ((((List.range words.length).map mark).zip words).drop k)) } ∧
        OnlyIn [.bus, .report] s t ∧ Reported [] [] s t) ∧
    (∀ (s : State) (addr : Addr) (index : Nat) (d : Words8) (arrival : Time) (f : Forwarded) (a : WriteWord) (plain : List WriteWord)
        (later : List (Option IntakeRecord × WriteWord)), NextRecord (.spectral index d) arrival f a plain later s →
      ∃ t, exec (.receiveRecordIntake addr .next) s = .next t ∧ RecordPassed arrival f a plain later s t ∧
        ((d.w1.extractLsb' 0 16).toNat = 0 ∨
            ((d.w1.extractLsb' 24 8).toNat ≠ 20 ∧ (d.w1.extractLsb' 24 8).toNat ≠ 40) →
          OnlyIn [.bus, .report] s t ∧ Reported [] [.malformedRecord] s t) ∧
        ∀ sp, (sp, (d.w1.extractLsb' 24 8).toNat) ∈ [(Width.mhz20, 20), (.mhz40, 40)] → 1 ≤ (d.w1.extractLsb' 0 16).toNat →
          (8 ≤ s.intake.fifo.length → OnlyIn [.bus, .report] s t ∧ Reported [.intakeOverflow] [.intakeDrop] s t) ∧
          (s.intake.fifo.length < 8 → s.intake.fold ≠ none ∨ s.intake.fifo = [] →
            (∃ x : SpectralEntry, x =
                { start := d.w0, duration := (d.w1.extractLsb' 0 16).toNat, channel := (d.w1.extractLsb' 16 8).toNat
                  span := sp
                  report0 := { level := (d.w2.extractLsb' 0 8).toInt, busy := (d.w2.extractLsb' 8 8).toNat }
                  report1 := { level := (d.w2.extractLsb' 16 8).toInt, busy := (d.w2.extractLsb' 24 8).toNat }
                  report2 := { level := (d.w3.extractLsb' 0 8).toInt, busy := (d.w3.extractLsb' 8 8).toNat }
                  report3 := { level := (d.w3.extractLsb' 16 8).toInt, busy := (d.w3.extractLsb' 24 8).toNat }
                  sequence := (d.w7.extractLsb' 0 16).toNat } ∧
              t.intake.fifo = s.intake.fifo ++ [{ body := .spectral x, voidMap := false, voidNeighbour := false }]) ∧
            (s.intake.fold ≠ none → t.intake.fold = s.intake.fold) ∧
            (s.intake.fold = none → ∃ a, t.intake.fifo = [a] ∧ FoldBegun a [] [] s t) ∧
            t.intake.lastSequence = s.intake.lastSequence ∧ OnlyIn [.intake, .bus, .report] s t ∧ Reported [] [] s t)) ∧
    (∀ (s : State) (addr : Addr) (arrival : Time) (f : Forwarded) (a : WriteWord) (plain : List WriteWord)
        (later : List (Option IntakeRecord × WriteWord)), NextRecord .partly arrival f a plain later s →
      ∃ t, exec (.receiveRecordIntake addr .next) s = .next t ∧ RecordPassed arrival f a plain later s t ∧
        OnlyIn [.bus, .report] s t ∧ Reported [] [.partialRecord] s t) ∧
    ∀ (s : State) (addr : Addr) (words : List WriteWord), s.bus.service = none →
      s.policy.mode = .unconfigured ∨ s.bus.windows = none →
      ∃ t, exec (.receiveRecordIntake addr (.take words)) s = .next t ∧
        t.bus = { s.bus with
          mPort := some { write := true, tag := .rxDma, addr := addr, length := words.length, words := words }
          uPort := [] } ∧ OnlyIn [.bus, .report] s t ∧ Reported [] [] s t

/-- With no read in service, no admission in progress and transfers observed, a TX-DMA read of n whole descriptors, n 1
or 2, at a descriptor's start in the TX ring goes to memory unchanged and delivers nothing yet: the read stays in
service with the descriptors waiting in address order, each with its element index and its eight words as memory returns
them. Any read with a word in the TX ring is taken so: the words before its first word in the ring are delivered, and
the rest waits in address order as runs of words, each a whole descriptor, part of one, or outside the ring. No other
state changes. While an admission is in progress, the next descriptor returns: a whole one is sampled with the mode of
that moment and waits behind the held one, kept for the Rewriter with the Air Time of its return or as stored; a part
waits as stored and counts one partial record in ACTIVE; words outside the ring behind it wait too. Nothing is
delivered. That one descriptor returns at a time is the model's granularity (log entry 5). -/
def Obligations.DescriptorReadIsTakenAndKept : Prop :=
  (∀ (s : State) (w : Windows) (addr : Addr) (ds : List Words8), s.bus.service = none → s.admission.inProgress = none →
    s.bus.observing = true → s.bus.windows = some w → ds.length = 1 ∨ ds.length = 2 → w.tx.base ≤ addr.toNat →
    (addr.toNat - w.tx.base) % 32 = 0 → addr.toNat + 32 * ds.length ≤ w.tx.base + 32 * w.tx.count →
    addr.toNat + 32 * ds.length ≤ 16777216 →
    ∃ t, exec (.descriptorRead (.take addr (ds.flatMap Words8.toList))) s = .next t ∧
      t.bus = { s.bus with
        mPort := some { write := false, tag := .txDma, addr := addr, length := 8 * ds.length, words := [] }, uPort := []
        service := some (.descriptors (ds.zipIdx.map fun p => .whole ((addr.toNat - w.tx.base) / 32 + p.2) p.1) []) } ∧
      OnlyIn [.bus, .report] s t ∧ Reported [] [] s t) ∧
  (∀ (s : State) (w : Windows) (addr : Addr) (ws : List Word) (i : Nat), s.bus.service = none →
    s.admission.inProgress = none → s.bus.observing = true → s.bus.windows = some w → i < ws.length →
    w.tx.holds 32 (addr.toNat + 4 * i) = true →
    ∃ t out gs, exec (.descriptorRead (.take addr ws)) s = .next t ∧ ws = out ++ gs.flatMap Segment.words ∧
      (∀ j, j < out.length → w.tx.holds 32 (addr.toNat + 4 * j) = false) ∧ Segmented w addr ws.length out.length gs ∧
      (∀ x, gs.head? ≠ some (.outside x)) ∧
      t.bus = { s.bus with
        mPort := some { write := false, tag := .txDma, addr := addr, length := ws.length, words := [] }, uPort := out
        service := some (.descriptors gs []) } ∧
      OnlyIn [.bus, .report] s t ∧ Reported [] [] s t) ∧
  ∀ (s : State) (g : Segment) (p : Piece) (counted : List Counter) (outs : List (List Word)) (later : List Segment)
      (behind : List Piece), s.admission.inProgress ≠ none →
    s.bus.service = some (.descriptors (g :: (outs.map Segment.outside ++ later)) behind) →
    (∀ x, later.head? ≠ some (.outside x)) →
    (∃ i d, g = .whole i d ∧ counted = [] ∧
      p = if s.policy.mode = .active ∧ d.w4.getLsbD 0 = true ∧ d.w4.getLsbD 1 = false then .sampled i d s.air.airTime
        else .stored d.toList) ∨
    (∃ ws, g = .partly ws ∧ p = .stored ws ∧ counted = if s.policy.mode = .active then [.partialRecord] else []) →
    ∃ t, exec (.descriptorRead .next) s = .next t ∧
      t.bus = { s.bus with service := some (.descriptors later (behind ++ p :: outs.map Piece.stored)) } ∧
      OnlyIn [.bus, .report] s t ∧ Reported [] counted s t

/-- With nothing held before it, the next descriptor of the TX-DMA read in service returns. A whole one in another mode
than ACTIVE, owned by the driver, or done, is delivered as stored. In ACTIVE, owned by the radio and not done, it
reaches the Rewriter: an entry for its index with the same fingerprint repeats its rewrite and counts as repeated; one
with another fingerprint is removed, counts as superseded, and an admission begins; with no entry an admission begins.
An admission holds the words and the values of the moment and delivers nothing yet. A partly covered descriptor is
delivered as stored and counts one partial record in ACTIVE. Words outside the ring that follow are delivered with it,
in the command that returns it, or wait behind the admission: that they have no command of their own, and that one
command returns a descriptor whole, is the model's granularity (log entry 5). A rewrite changes the width flag and the
not-before word alone, and the fingerprint is the fields of words 1 and 2 at their bits. The read ends with its last
word. -/
def Obligations.DescriptorReturns : Prop :=
  (∀ d : Words8, d.fingerprint = descriptorFields d) ∧
  (∀ (s : State) (i : Nat) (d : Words8) (outs : List (List Word)) (later : List Segment), s.admission.inProgress = none →
      s.bus.service = some (.descriptors (.whole i d :: (outs.map Segment.outside ++ later)) []) →
      (∀ x, later.head? ≠ some (.outside x)) →
      (s.policy.mode ≠ .active ∨ d.w4.getLsbD 0 = false ∨ d.w4.getLsbD 1 = true →
        ∃ t, exec (.descriptorRead .next) s = .next t ∧
          t.bus = { s.bus with uPort := s.bus.uPort ++ d.toList ++ outs.flatten
                               service := if later = [] then none else some (.descriptors later []) } ∧
          OnlyIn [.bus, .report] s t ∧ Reported [] [] s t) ∧
      (s.policy.mode = .active → d.w4.getLsbD 0 = true → d.w4.getLsbD 1 = false →
        (∀ e, s.rewriter.entries.find? (fun e => e.index == i) = some e → e.fingerprint = d.fingerprint →
          ∃ t, exec (.descriptorRead .next) s = .next t ∧
            t.bus = { s.bus with uPort := s.bus.uPort ++ deliveredWords e.decision e.notBefore d ++ outs.flatten
                                 service := if later = [] then none else some (.descriptors later []) } ∧
            OnlyIn [.bus, .report] s t ∧ Reported [] [.repeated] s t) ∧
        ((∀ e ∈ s.rewriter.entries, e.index = i → e.fingerprint ≠ d.fingerprint) →
          ∃ t, exec (.descriptorRead .next) s = .next t ∧
            t.bus = { s.bus with service := some (.descriptors later (outs.map Piece.stored)) } ∧
            t.admission.relief = s.admission.relief ∧
            t.admission.inProgress = some
              { index := i, words := d, now := s.air.airTime, offset := s.air.offset, aligned := s.air.aligned
                phase := s.tracker.phase, cells := s.map.cells, slots := s.schedule.slots
                guards := s.schedule.settings, radio := s.policy.radio, rates := s.policy.rates
                shaping := s.policy.shaping, relief := s.admission.relief } ∧
            t.rewriter.entries = s.rewriter.entries.filter (fun e => e.index != i) ∧
            OnlyIn [.admission, .rewriter, .bus, .report] s t ∧
            Reported [] (if ∃ e ∈ s.rewriter.entries, e.index = i then [.superseded] else []) s t))) ∧
    ∀ (s : State) (ws : List Word) (outs : List (List Word)) (later : List Segment), s.admission.inProgress = none →
      s.bus.service = some (.descriptors (.partly ws :: (outs.map Segment.outside ++ later)) []) →
      (∀ x, later.head? ≠ some (.outside x)) →
      ∃ t, exec (.descriptorRead .next) s = .next t ∧
        t.bus = { s.bus with uPort := s.bus.uPort ++ ws ++ outs.flatten
                             service := if later = [] then none else some (.descriptors later []) } ∧
        OnlyIn [.bus, .report] s t ∧ Reported [] (if s.policy.mode = .active then [.partialRecord] else []) s t

/-- The airtime of a frame of length L at rate code c and width x is the preamble time plus 4 microseconds for each of
the least number q of symbols of D(c, x) bits that hold 8 L + 22 bits; a result above 65,535 is given as 65,535. It is
unavailable exactly when D(c, x) or L is 0. With the preamble time in 16..255 an available airtime is at least 20. An
admission's airtime at a width is that of the length and the rate code of its descriptor, with the preamble time and the
rate table fixed at its beginning; D(c, 20) and D(c, 40) are the two values of code c. -/
def Obligations.AirtimeOfAFrame : Prop :=
  (∀ (v : AdmissionView) (x : Width), v.airtimeAt x =
    airtimeOf v.radio.preamble v.rates (v.words.w1.extractLsb' 0 12).toNat (v.words.w1.extractLsb' 12 4).toFin x) ∧
  (∀ (rates : RateTable) (c : Fin 16), rates.entry c .mhz20 = rates.d20[c] ∧ rates.entry c .mhz40 = rates.d40[c]) ∧
  ∀ (pre : Nat) (rates : RateTable) (len : Nat) (c : Fin 16) (x : Width),
    (airtimeOf pre rates len c x = none ↔ len = 0 ∨ rates.entry c x = 0) ∧
    (∀ q, 1 ≤ len → 8 * len + 22 ≤ q * rates.entry c x → (q - 1) * rates.entry c x < 8 * len + 22 →
      airtimeOf pre rates len c x = some (if 65535 < pre + 4 * q then 65535 else pre + 4 * q)) ∧
    (1 ≤ len → 1 ≤ rates.entry c x → ∃ q, 8 * len + 22 ≤ q * rates.entry c x ∧ (q - 1) * rates.entry c x < 8 * len + 22) ∧
    (16 ≤ pre → ∀ n, airtimeOf pre rates len c x = some n → 20 ≤ n)

/-- With NB = 0 the start estimate S0 is now + E. Otherwise nb is NB converted to Air Time, and its lead nb - now is
read as a signed difference: a lead above 1,000,000 is far and a lead of exactly 1,000,000 is not; a lead below E, a
negative one included, gives now + E; any other gives nb. The planned start of a frame that is not deferred is now + E
in UNALIGNED, and S0 or the far nb in ALIGNED. -/
def Obligations.StartEstimate : Prop :=
  ∀ v : AdmissionView,
    (v.frame.notBefore = 0#32 → v.startEstimate = .at (v.now + BitVec.ofNat 32 v.radio.access)) ∧
    (v.frame.notBefore ≠ 0#32 → ∀ nb, nb = v.frame.notBefore - v.offset →
      (1000000 < (nb - v.now).toInt → v.startEstimate = .far nb) ∧
      ((nb - v.now).toInt ≤ 1000000 → (nb - v.now).toInt < v.radio.access →
        v.startEstimate = .at (v.now + BitVec.ofNat 32 v.radio.access)) ∧
      ((nb - v.now).toInt ≤ 1000000 → (v.radio.access : Int) ≤ (nb - v.now).toInt → v.startEstimate = .at nb)) ∧
    (v.aligned = false → v.undeferredStart = v.now + BitVec.ofNat 32 v.radio.access) ∧
    (v.aligned = true → (∀ x, v.startEstimate = .at x → v.undeferredStart = x) ∧
      ∀ x, v.startEstimate = .far x → v.undeferredStart = x)

/-- A start S at a width whose airtime A is available passes exactly when no blackout window of a TRACKED entry that
ends after now intersects [S, S + A), and, when phase was available, every cell of the bins that the microseconds of [S,
S + A) lie in, in the slices of the width, scores at or below the accept level. The slices are the primary pair, or all
four for 40 MHz at a 40 MHz operating width. Premises: positive intervals and a period in range, and an interval that
does not pass the half-way point of Air Time from r, where signed differences jump. Windows are placed as log entry 10
says, a choice of the model. -/
def Obligations.CheckOfAStart : Prop :=
  ∀ (v : AdmissionView) (start : Time) (x : Width) (n : Nat), v.airtimeAt x = some n → 1 ≤ n →
    (∀ i : Fin 8, ∀ e, v.slots[i] = some e → 1 ≤ e.interval) →
    (∀ ph, v.phase = some ph → 15000 ≤ ph.period ∧ ph.period ≤ 22000 ∧ (start - ph.ref).toInt + n ≤ 2147483648) →
    (v.check start x = true ↔ ¬ TrackedWindowMeets v.slots v.guards 0 v.now start n ∧
      ∀ ph, v.phase = some ph → ∀ j b k, j < n → b = binAt ph.ref ph.period (start + BitVec.ofNat 32 j) →
        (if x = .mhz40 ∧ v.radio.width = .mhz40 then k < 4 else InPrimaryPair v.radio.secondary k) →
        scoreAt v.cells b k ≤ v.shaping.acceptLevel)

/-- The decision of an admission follows the first step that applies: PINNED; UNALIGNED; BADFIELD when the airtime at
the requested width is unavailable; FAR; CLEAR when S0 passes at the requested width; NARROW/SHAPED when a narrowable 40
MHz frame with a 20 MHz rate passes at 20; for a deferrable frame with a hold limit above 0, RELIEF when a non-zero
relief count is reached, and otherwise what the search gives, SHAPED, or NOWINDOW when it finds nothing; NOWINDOW in
every other case. A decision that does not defer plans the start of R109. The fields judged lie in words 1 and 2 of the
held descriptor: length in bits 11:0, rate code 15:12, width 16, pinned 17, narrowable 18 and deferrable 19 of word 1,
and the not-before time in word 2. -/
def Obligations.AdmissionLadder : Prop :=
  ∀ v : AdmissionView, v.frame = descriptorFields v.words ∧
    (v.frame.pinned = true → v.ladder = { decision := .pass, reason := .pinned, start := v.undeferredStart }) ∧
    (v.frame.pinned = false → v.aligned = false →
      v.ladder = { decision := .pass, reason := .unaligned, start := v.undeferredStart }) ∧
    (v.frame.pinned = false → v.aligned = true →
      (v.airtimeAt v.frame.width = none →
        v.ladder = { decision := .pass, reason := .badfield, start := v.undeferredStart }) ∧
      (v.airtimeAt v.frame.width ≠ none →
        (∀ nb, v.startEstimate = .far nb → v.ladder = { decision := .pass, reason := .far, start := nb }) ∧
        ∀ s0, v.startEstimate = .at s0 →
          (v.check s0 v.frame.width = true → v.ladder = { decision := .pass, reason := .clear, start := s0 }) ∧
          (v.check s0 v.frame.width = false →
            (v.frame.width = .mhz40 ∧ v.frame.narrowable = true ∧ v.rates.d20[v.frame.rate] ≠ 0 ∧
                v.check s0 .mhz20 = true →
              v.ladder = { decision := .narrow, reason := .shaped, start := s0 }) ∧
            (¬ (v.frame.width = .mhz40 ∧ v.frame.narrowable = true ∧ v.rates.d20[v.frame.rate] ≠ 0 ∧
                v.check s0 .mhz20 = true) →
              (v.frame.deferrable = false ∨ v.shaping.holdLimit = 0 →
                v.ladder = { decision := .pass, reason := .nowindow, start := s0 }) ∧
              (v.frame.deferrable = true → 1 ≤ v.shaping.holdLimit →
                (1 ≤ v.shaping.reliefCount → v.shaping.reliefCount ≤ v.relief →
                  v.ladder = { decision := .pass, reason := .relief, start := s0 }) ∧
                (v.shaping.reliefCount = 0 ∨ v.relief < v.shaping.reliefCount →
                  (∀ d t, v.search s0 = some (d, t) → v.ladder = { decision := d, reason := .shaped, start := t }) ∧
                  (v.search s0 = none →
                    v.ladder = { decision := .pass, reason := .nowindow, start := s0 })))))))

/-- The candidates, as amounts after S0, increase strictly. Before the replacement of R119 they are the amounts 1..H at
which a bin begins, when phase was available, or at which a blackout window of a TRACKED entry that ends after now ends.
A candidate whose radio time would be 0 is replaced by the next microsecond, or removed when that passes the hold limit.
Windows are placed as log entry 10 says, a choice of the model. -/
def Obligations.SearchCandidates : Prop :=
  ∀ (v : AdmissionView) (s0 : Time), (∀ i : Fin 8, ∀ e, v.slots[i] = some e → 1 ≤ e.interval) →
    (∀ ph, v.phase = some ph → 64 ≤ ph.period) → v.shaping.holdLimit ≤ 16383 →
    (v.candidates s0).Pairwise (· < ·) ∧
    ∀ raw : Nat → Prop,
      (∀ o, raw o ↔ 1 ≤ o ∧ o ≤ v.shaping.holdLimit ∧
        ((∃ ph b, v.phase = some ph ∧ b < 64 ∧
            ((s0 - ph.ref).toInt + o) % (ph.period : Int) = ((b * ph.period + 63) / 64 : Nat)) ∨
          ∃ i : Fin 8, ∃ e, v.slots[i] = some e ∧ 3 ≤ e.confidence ∧ ∃ k : Nat,
            (v.now - e.anchor).toInt < (k * (e.interval * 1024) + e.airtime + v.guards.guardAfter : Nat) ∧
            (v.now - e.anchor).toInt + (s0 - v.now).toInt + o =
              (k * (e.interval * 1024) + e.airtime + v.guards.guardAfter : Nat))) →
      ∀ o, o ∈ v.candidates s0 ↔
        (raw o ∧ s0 + BitVec.ofNat 32 o + v.offset ≠ 0#32) ∨
        (1 ≤ o ∧ o ≤ v.shaping.holdLimit ∧ raw (o - 1) ∧ s0 + BitVec.ofNat 32 (o - 1) + v.offset = 0#32)

/-- The search answers a decision and a start exactly when a candidate passes: the start is the first candidate of the
list that passes at the requested width (DEFER) or, failing there and with a frame that step 6 could narrow, at 20 MHz
(NARROW-DEFER); no earlier candidate passes at either. It answers nothing exactly when no candidate passes. -/
def Obligations.SearchFindsTheEarliest : Prop :=
  ∀ (v : AdmissionView) (s0 : Time) (passes : Width → Nat → Prop),
    (∀ x o, passes x o ↔ v.check (s0 + BitVec.ofNat 32 o) x = true ∧ (x = v.frame.width ∨
      (x = .mhz20 ∧ v.frame.width = .mhz40 ∧ v.frame.narrowable = true ∧ v.rates.d20[v.frame.rate] ≠ 0))) →
    (∀ d t, v.search s0 = some (d, t) ↔ ∃ before o after, v.candidates s0 = before ++ o :: after ∧
      t = s0 + BitVec.ofNat 32 o ∧ (∀ x, ∀ p ∈ before, ¬ passes x p) ∧
      (d = .defer ∧ passes v.frame.width o ∨ d = .narrowDefer ∧ ¬ passes v.frame.width o ∧ passes .mhz20 o)) ∧
    (v.search s0 = none ↔ ∀ x, ∀ p ∈ v.candidates s0, ¬ passes x p)

/-- A deferring decision is taken only in ALIGNED for a deferrable frame that is not pinned, while a non-zero relief
count is not reached; its planned start lies after the start estimate by 1 to the hold limit, and the rewritten not-
before is that start in radio time and not 0. Any other decision carries no rewritten not-before and plans the start of
R109. A decision narrows only a narrowable 40 MHz frame, and the delivered width is then 20 and otherwise the requested
one. The slice set is all four slices for 40 MHz delivered at a 40 MHz operating width and the primary pair otherwise.
The planned end is the planned start plus the airtime delivered, 0 when it is unavailable. -/
def Obligations.DeferralsAreBounded : Prop :=
  ∀ v : AdmissionView,
    (v.verdict.decision = .defer ∨ v.verdict.decision = .narrowDefer →
      v.aligned = true ∧ v.frame.pinned = false ∧ v.frame.deferrable = true ∧ v.verdict.reason = .shaped ∧
      (v.shaping.reliefCount = 0 ∨ v.relief < v.shaping.reliefCount) ∧
      ∃ s0 o, v.startEstimate = .at s0 ∧ 1 ≤ o ∧ o ≤ v.shaping.holdLimit ∧
        v.verdict.plannedStart = s0 + BitVec.ofNat 32 o ∧ s0 + BitVec.ofNat 32 o + v.offset ≠ 0#32 ∧
        v.verdict.notBefore = some (s0 + BitVec.ofNat 32 o + v.offset)) ∧
    (v.verdict.decision = .pass ∨ v.verdict.decision = .narrow →
      v.verdict.notBefore = none ∧ v.verdict.plannedStart = v.undeferredStart) ∧
    (v.verdict.decision = .narrow ∨ v.verdict.decision = .narrowDefer →
      v.frame.width = .mhz40 ∧ v.frame.narrowable = true ∧ v.verdict.width = .mhz20 ∧ v.verdict.reason = .shaped) ∧
    (v.verdict.decision = .pass ∨ v.verdict.decision = .defer → v.verdict.width = v.frame.width) ∧
    v.verdict.slices = (if v.verdict.width = .mhz40 ∧ v.radio.width = .mhz40 then .all
      else if v.radio.secondary = .below then .high else .low) ∧
    v.verdict.airtime = (v.airtimeAt v.verdict.width).getD 0 ∧
    v.verdict.plannedEnd = v.verdict.plannedStart + BitVec.ofNat 32 v.verdict.airtime

/-- With an admission in progress, ADMISSION_RESULT counts its decision and its reason, each in its own of the four
decision and eight reason counters; the relief counter rises by 1, held at 15, after a deferral and becomes 0 otherwise;
a full list of 16 first evicts its head, setting PENDING_EVICTED; the entry opens at the tail with its stale expiry at
the planned end plus the timeout, and an expiry not after Air Time removes it at once and counts as stale. The held
words follow upstream with the width flag at 20 MHz for a narrowing and the not-before word rewritten for a deferral,
all other bits as stored, and then what waited behind them as stored. Nothing else changes. A descriptor that waited as
kept for the Rewriter reaches it next, in the state that the rest of the step leaves: an entry with its fingerprint
repeats its rewrite and lets what waits behind it follow; one with another fingerprint is superseded; and its admission
begins, with the Air Time of its return and the values of the moment, while what is behind it waits. That this happens
in the same command is the model's choice (log entry 27). -/
def Obligations.AdmissionEnds : Prop :=
  [Decision.pass, .narrow, .defer, .narrowDefer].map Decision.counter =
    [.passDecisions, .narrowDecisions, .deferDecisions, .narrowDeferDecisions] ∧
  [Reason.clear, .pinned, .unaligned, .badfield, .far, .nowindow, .relief, .shaped].map Reason.counter =
    [.clearReasons, .pinnedReasons, .unalignedReasons, .badfieldReasons, .farReasons, .nowindowReasons, .reliefReasons,
      .shapedReasons] ∧
  (∀ (s : State) (v : AdmissionView) (rest : List Segment) (behind : List (List Word)) (e : PendingEntry),
    s.admission.inProgress = some v → s.bus.service = some (.descriptors rest (behind.map Piece.stored)) →
    e = { index := v.index, fingerprint := v.frame, decision := v.verdict.decision, reason := v.verdict.reason
          width := v.verdict.width, notBefore := v.verdict.notBefore, plannedStart := v.verdict.plannedStart
          airtime := v.verdict.airtime, slices := v.verdict.slices, plannedEnd := v.verdict.plannedEnd
          expiry := v.verdict.plannedEnd + BitVec.ofNat 32 (s.policy.shaping.timeoutMs * 1000) } →
    ∃ t, exec .admissionResult s = .next t ∧
      t.admission = { inProgress := none
                      relief := if e.decision = .defer ∨ e.decision = .narrowDefer then min 15 (s.admission.relief + 1)
                        else 0 } ∧
      t.rewriter.entries =
        (if 16 ≤ s.rewriter.entries.length then s.rewriter.entries.tail else s.rewriter.entries) ++
          (if 0 < (e.expiry - s.air.airTime).toInt then [e] else []) ∧
      t.bus = { s.bus with
        service := if rest = [] then none else some (.descriptors rest [])
        uPort := s.bus.uPort ++ deliveredWords e.decision e.notBefore v.words ++ behind.flatten } ∧
      OnlyIn [.admission, .rewriter, .bus, .report] s t ∧
      Reported (if 16 ≤ s.rewriter.entries.length then [.pendingEvicted] else [])
        ([e.decision.counter, e.reason.counter] ++ (if 16 ≤ s.rewriter.entries.length then [.evicted] else []) ++
          if 0 < (e.expiry - s.air.airTime).toInt then [] else [.stale]) s t) ∧
  ∀ (s : State) (v : AdmissionView) (rest : List Segment) (front behind : List (List Word)) (i : Nat) (d : Words8)
      (now : Time), s.admission.inProgress = some v →
    s.bus.service =
      some (.descriptors rest (front.map Piece.stored ++ .sampled i d now :: behind.map Piece.stored)) →
    ∃ u t, exec .admissionResult { s with bus.service := some (.descriptors [] (front.map Piece.stored)) } = .next u ∧
      exec .admissionResult s = .next t ∧
      (∀ e, u.rewriter.entries.find? (fun e => e.index == i) = some e → e.fingerprint = d.fingerprint →
        t.bus = { u.bus with
          uPort := u.bus.uPort ++ deliveredWords e.decision e.notBefore d ++ behind.flatten
          service := if rest = [] then none else some (.descriptors rest []) } ∧
        OnlyIn [.bus, .report] u t ∧ Reported [] [.repeated] u t) ∧
      ((∀ e ∈ u.rewriter.entries, e.index = i → e.fingerprint ≠ d.fingerprint) →
        t.bus = { u.bus with service := some (.descriptors rest (behind.map Piece.stored)) } ∧
        t.admission = { u.admission with
          inProgress := some
            { index := i, words := d, now := now, offset := u.air.offset, aligned := u.air.aligned
              phase := u.tracker.phase, cells := u.map.cells, slots := u.schedule.slots
              guards := u.schedule.settings, radio := u.policy.radio, rates := u.policy.rates
              shaping := u.policy.shaping, relief := u.admission.relief } } ∧
        t.rewriter.entries = u.rewriter.entries.filter (fun e => e.index != i) ∧
        OnlyIn [.admission, .rewriter, .bus, .report] u t ∧
        Reported [] (if ∃ e ∈ u.rewriter.entries, e.index = i then [.superseded] else []) u t)

/-- In STANDBY or ACTIVE, each word 4 of a descriptor that a TX-DMA write carries with byte 0 enabled and done set is a
completion, wherever the write begins and however many it carries. Taking the write sends the words before the first one
as they arrived; the rest stays in service, or the write ends with none (log entry 5). Each COMPLETION_CANDIDATE then
handles the next completion in address order: its word 4 goes to memory with byte 3 holding the entry's shaping code
(section 11.5), or 9 (PASS/UNTRACKED) with no entry, when that byte is enabled, and the words behind it up to the next
one as they arrived. With an entry it is removed and counted as matched; a success with no retry, or a failure, or a
success after two retries or more, pushes COMPLETION evidence when the airtime is not 0: its start is word 5 converted
to Air Time when the write carries it whole, it is not 0 and the part is ALIGNED, and otherwise the planned start. A
full FIFO drops it, and an IDLE processor begins its fold. With no entry the untracked counter counts and nothing else.
-/
def Obligations.CompletionIsMatchedOrUntracked : Prop :=
  (∀ (s : State) (w : Windows) (addr : Addr) (words : List WriteWord) (mark : Nat → Option Nat) (k : Nat),
    s.bus.service = none → s.bus.observing = true → s.bus.windows = some w → s.policy.mode ≠ .unconfigured →
    (∀ j i, mark j = some i ↔ i < w.tx.count ∧ w.tx.base ≤ addr.toNat + 4 * j ∧ addr.toNat + 4 * j < 16777216 ∧
      (addr.toNat + 4 * j - w.tx.base) / 4 = 8 * i + 4 ∧
      ∃ a, words[j]? = some a ∧ a.enables.getLsbD 0 = true ∧ a.data.getLsbD 1 = true) →
    k ≤ words.length → (∀ j, j < k → mark j = none) → (k < words.length → mark k ≠ none) →
    ∃ t, exec (.completionCandidate addr (.take words)) s = .next t ∧
      t.bus = { s.bus with
        uPort := []
        mPort := some { write := true, tag := .txDma, addr := addr, length := words.length, words := words.take k }
        service := if k = words.length then none else
          some (.completions ((((List.range words.length).map mark).zip words).drop k)) } ∧
      OnlyIn [.bus, .report] s t ∧ Reported [] [] s t) ∧
  (∀ (s : State) (addr : Addr) (f : Forwarded) (i : Nat) (a : WriteWord) (plain : List WriteWord)
      (rest later : List (Option Nat × WriteWord)),
    s.bus.service = some (.completions ((some i, a) :: rest)) → s.bus.mPort = some f →
    rest = plain.map (fun x => (none, x)) ++ later → (∀ x, later.head? = some x → x.1 ≠ none) →
    ∃ t, exec (.completionCandidate addr .next) s = .next t ∧
      (∀ code : BitVec 8, code = (match s.rewriter.entries.find? (fun e => e.index == i) with
          | some e => shapingCode e.decision e.reason
          | none => 9#8) →
        t.bus = { s.bus with
          mPort := some { f with words := f.words ++
            { enables := a.enables
              data := if a.enables.getLsbD 3 = true then code ++ a.data.extractLsb' 0 24 else a.data } :: plain }
          service := if later = [] then none else some (.completions later) }) ∧
      ((∀ e ∈ s.rewriter.entries, e.index ≠ i) → OnlyIn [.bus, .report] s t ∧ Reported [] [.untracked] s t) ∧
      ∀ e, s.rewriter.entries.find? (fun e => e.index == i) = some e →
        t.rewriter.entries = s.rewriter.entries.filter (fun e => e.index != i) ∧
        ∀ result retries w5, result = (a.data.extractLsb' 2 2).toNat → retries = (a.data.extractLsb' 4 4).toNat →
          w5 = (match rest with
            | (_, b) :: _ => if b.enables = 0xF#4 then b.data else 0#32
            | [] => 0#32) →
          (e.airtime = 0 ∨ 2 ≤ result ∨ (result = 0 ∧ retries = 1) → OnlyIn [.rewriter, .bus, .report] s t ∧
            Reported [] [.matched] s t) ∧
          (e.airtime ≠ 0 → ∀ o, (o = .success ∧ result = 0 ∧ retries = 0 ∨
              o = .failure ∧ (result = 1 ∨ (result = 0 ∧ 2 ≤ retries))) →
            (8 ≤ s.intake.fifo.length → OnlyIn [.rewriter, .bus, .report] s t ∧
              Reported [.intakeOverflow] [.matched, .intakeDrop] s t) ∧
            (s.intake.fifo.length < 8 → s.intake.fold ≠ none ∨ s.intake.fifo = [] → ∃ x : Entry,
              x = { voidMap := false, voidNeighbour := false, body := .completion
                      { outcome := o, airtime := e.airtime, slices := e.slices
                        start := if w5 ≠ 0#32 ∧ s.air.aligned = true then w5 - s.air.offset else e.plannedStart } } ∧
              OnlyIn [.intake, .rewriter, .bus, .report] s t ∧ Reported [] [.matched] s t ∧
              t.intake.lastSequence = s.intake.lastSequence ∧ t.intake.fifo = s.intake.fifo ++ [x] ∧
              (s.intake.fold ≠ none → t.intake.fold = s.intake.fold) ∧
              (s.intake.fold = none → FoldBegun x [] [.matched] s t)))) ∧
  ∀ d m r n, (d, m) ∈ [(Decision.pass, 0), (.narrow, 1), (.defer, 2), (.narrowDefer, 3)] →
    (r, n) ∈ [(Reason.clear, 1), (.pinned, 2), (.unaligned, 3), (.badfield, 4), (.far, 5), (.nowindow, 6), (.relief, 7),
      (.shaped, 8), (.untracked, 9)] → (shapingCode d r).toNat = 64 * m + n

/-- In STANDBY or ACTIVE, a CPU write that lies in one descriptor of the TX ring and carries any of its words 0..4,
whatever the byte enables, removes the pending entry for its index, if one exists, and counts it as abandoned. A write
that carries only words 5..7, or one taken in UNCONFIGURED, changes nothing. A write with any word in the TX ring, over
however many descriptors, does so for every descriptor of which it carries any of words 0..4: exactly their entries
leave, the others keep their order, and the abandoned counter counts 1 for each, held at 65,535 (premise: no two entries
have one index, and the counter is in range). The write leaves the M-port as it arrived in every case, and is no control
record whatever it carries. -/
def Obligations.CpuWriteAbandons : Prop :=
  (∀ (s : State) (w : Windows) (addr : Addr) (words : List WriteWord) (i j : Nat), s.bus.service = none →
    s.bus.observing = true → s.bus.windows = some w → i < w.tx.count → words ≠ [] → j + words.length ≤ 8 →
    addr.toNat = w.tx.base + 32 * i + 4 * j → addr.toNat + 4 * words.length ≤ 16777216 →
    ∃ t, exec (.possibleAbandonment addr words) s = .next t ∧
      t.bus = { s.bus with
        mPort := some { write := true, tag := .cpu, addr := addr, length := words.length, words := words }
        uPort := [] } ∧
      (s.policy.mode ≠ .unconfigured → j ≤ 4 →
        t.rewriter.entries = s.rewriter.entries.filter (fun e => e.index != i) ∧
        OnlyIn [.rewriter, .bus, .report] s t ∧
        Reported [] (if ∃ e ∈ s.rewriter.entries, e.index = i then [.abandoned] else []) s t) ∧
      (s.policy.mode = .unconfigured ∨ 5 ≤ j → OnlyIn [.bus, .report] s t ∧ Reported [] [] s t)) ∧
  ∀ (s : State) (w : Windows) (addr : Addr) (words : List WriteWord) (k : Nat) (hit : Nat → Bool), s.bus.service = none →
    s.bus.observing = true → s.bus.windows = some w → k < words.length → w.tx.holds 32 (addr.toNat + 4 * k) = true →
    (∀ i, hit i = true ↔ s.policy.mode ≠ .unconfigured ∧ i < w.tx.count ∧ ∃ j, j < words.length ∧
      w.tx.base ≤ addr.toNat + 4 * j ∧ addr.toNat + 4 * j < 16777216 ∧
      8 * i ≤ (addr.toNat + 4 * j - w.tx.base) / 4 ∧ (addr.toNat + 4 * j - w.tx.base) / 4 ≤ 8 * i + 4) →
    (s.rewriter.entries.map PendingEntry.index).Nodup → s.counter .abandoned ≤ 65535 →
    ∃ t, exec (.possibleAbandonment addr words) s = .next t ∧
      t.bus = { s.bus with
        mPort := some { write := true, tag := .cpu, addr := addr, length := words.length, words := words }
        uPort := [] } ∧
      t.rewriter.entries = s.rewriter.entries.filter (fun e => !hit e.index) ∧ OnlyIn [.rewriter, .bus, .report] s t ∧
      t.report.flags = s.report.flags ∧ t.report.enables = s.report.enables ∧ t.report.win = s.report.win ∧
      t.counter .abandoned =
        min 65535 (s.counter .abandoned + (s.rewriter.entries.filter fun e => hit e.index).length) ∧
      ∀ c, c ≠ .abandoned → t.counter c = s.counter c

/-- STALE_EXPIRY of an index whose entry's expiry is at or before Air Time removes the entry and counts 1 in the stale
counter; nothing else changes. With no entry for the index, or with an expiry that Air Time has not reached, it changes
nothing, by the model's convention for a command whose event is not due (log entry 3). -/
def Obligations.StaleExpiryRemovesTheEntry : Prop :=
  ∀ (s : State) (i : Nat), ∃ t, exec (.staleExpiry i) s = .next t ∧
    (∀ e, s.rewriter.entries.find? (fun e => e.index == i) = some e → 0 ≤ (s.air.airTime - e.expiry).toInt →
      t.rewriter.entries = s.rewriter.entries.filter (fun e => e.index != i) ∧ OnlyIn [.rewriter, .report] s t ∧
      Reported [] [.stale] s t) ∧
    ((∀ e ∈ s.rewriter.entries, e.index = i → (s.air.airTime - e.expiry).toInt < 0) →
      OnlyIn [.report] s t ∧ Reported [] [] s t)

/-- For every period of 64 or more and every phase d below it: the bin floor(d × 64 / P) lies in 0..63, and it is b
exactly when d is at least ceil(b × P / 64) and, for b below 63, less than ceil((b + 1) × P / 64); bin 63 runs up to P.
The bin of an Air Time is the bin of (t - r) mod P with a signed difference and a non-negative remainder. -/
def Obligations.BinsAndTheirBeginningsAgree : Prop :=
  (∀ p d b, 64 ≤ p → d < p → b < 64 → (binOf p d = b ↔ (b * p + 63) / 64 ≤ d ∧ (b < 63 → d < ((b + 1) * p + 63) / 64))) ∧
    (∀ p d, d < p → binOf p d < 64) ∧
    ∀ (ph : Phase) (t : Time), 1 ≤ ph.period →
      ph.bin t = binAt ph.ref ph.period t ∧ (ph.phaseOf t : Int) = (t - ph.ref).toInt % (ph.period : Int) ∧
      ph.phaseOf t < ph.period

/-- With P in 15,000..22,000 and n of 1 or more, a bin is in the phase span of [a, a + n) exactly when some microsecond
of the interval lies in it: all 64 bins when n is P or more or when the interval comes round to the beginning of bin(a),
otherwise the run from bin(a) up to bin(a + n - 1), wrapping from 63 to 0. Premise: the interval does not pass the half-
way point of Air Time from r, where the signed difference jumps. -/
def Obligations.PhaseSpanIsTheBinsOfTheInterval : Prop :=
  ∀ (ph : Phase) (a : Time) (n b : Nat), 15000 ≤ ph.period → ph.period ≤ 22000 → 1 ≤ n → b < 64 →
    (a - ph.ref).toInt + n ≤ 2147483648 →
    ((ph.span a n).has b = true ↔ ∃ j, j < n ∧ b = binAt ph.ref ph.period (a + BitVec.ofNat 32 j))

/-- For a score s in 0..255 and a shift k in 1..7, Rise(s, k) is s + ceil((255 - s) / 2^k) and Fall(s, k) is s - ceil(s
/ 2^k), exactly in integers. Each result lies in 0..255; Rise never lowers and Fall never raises; away from its end a
step moves the score by at least 1 and at its end it leaves it; both keep the order of scores; 255 Rises reach 255 and
255 Falls reach 0. -/
def Obligations.ScoreSteps : Prop :=
  ∀ k, 1 ≤ k → k ≤ 7 →
    (∀ s, s ≤ 255 →
      (∃ q : Nat, riseScore s k = s + q ∧ 255 - s ≤ q * 2 ^ k ∧ (255 - s + 2 ^ k - 1) / 2 ^ k = q) ∧
      (∃ q : Nat, fallScore s k + q = s ∧ s ≤ q * 2 ^ k ∧ (s + 2 ^ k - 1) / 2 ^ k = q) ∧
      s ≤ riseScore s k ∧ riseScore s k ≤ 255 ∧ (s < 255 → s + 1 ≤ riseScore s k) ∧ riseScore 255 k = 255 ∧
      fallScore s k ≤ s ∧ (0 < s → fallScore s k + 1 ≤ s) ∧ fallScore 0 k = 0 ∧
      (riseScore · k)^[255] s = 255 ∧ (fallScore · k)^[255] s = 0) ∧
    ∀ a b, a ≤ b → b ≤ 255 → riseScore a k ≤ riseScore b k ∧ fallScore a k ≤ fallScore b k

/-- For a SPECTRAL entry in hand, SPECTRAL_FOLD takes the entry's sequence as the last one, counting a gap when it is
not one more than a last one present. Then: a void-for-map entry ends its fold; an entry of another channel, or of span
40 at a 20 MHz operating width, counts as off-channel; one in UNALIGNED or without phase counts as unphased. Otherwise
the Map gets one request over the phase span of the sweep in Air Time: Rise with r_scan in each covered slice whose
report is at or above the hit level and the busy minimum, Fall with f_scan in the other covered slices; at span 20
reports 0 and 1 are those of the primary pair. The fold then waits. With an entry behind the fold that ends, that
entry's fold begins in the same step: a RECEIVE entry's sample aligns, slews, counts as an outlier or steps the offset,
and then the fold takes the values of the moment. With no SPECTRAL entry at the head nothing happens (log entry 3). -/
def Obligations.SpectralFold : Prop :=
  (∀ (s : State) (f : Fold) (x : SpectralEntry) (m n : Bool) (rest : List Entry) (gap : List Counter),
      FoldInHand f { body := .spectral x, voidMap := m, voidNeighbour := n } rest s →
      gap = (match s.intake.lastSequence with
        | some last => if x.sequence = (last + 1) % 65536 then [] else [.spectralGap]
        | none => []) →
      ∃ t, exec .spectralFold s = .next t ∧ t.intake.lastSequence = some x.sequence ∧
        (m = true → FoldEnded gap rest s t) ∧
        (m = false → ∀ off, (off ↔ f.context.radio.channel ≠ some x.channel ∨
            x.span = .mhz40 ∧ f.context.radio.width = .mhz20) →
          (off → FoldEnded (.offChannel :: gap) rest s t) ∧
          (¬ off → f.context.aligned = false ∨ f.context.phase = none → FoldEnded (.unphasedEvidence :: gap) rest s t) ∧
          (¬ off → f.context.aligned = true → ∀ ph, f.context.phase = some ph → ∃ e, HandedToMap e gap f s t ∧
            e.span = ph.span (x.start - f.context.offset) x.duration ∧
            ∀ k slice report, (k, report) ∈ [(0, x.report0), (1, x.report1), (2, x.report2), (3, x.report3)] →
              slice = (if x.span = .mhz20 ∧ f.context.radio.secondary = .below then (k + 2) % 4 else k) →
              e.stepIn slice =
                if x.span = .mhz20 ∧ 2 ≤ k then none
                else if f.context.evidence.hitLevel ≤ report.level ∧ f.context.evidence.busyMinimum ≤ report.busy then
                  some (.rise f.context.evidence.riseScan)
                else some (.fall f.context.evidence.fallScan)))) ∧
    ∀ s : State, (∀ x m n rest, s.intake.fifo ≠ { body := .spectral x, voidMap := m, voidNeighbour := n } :: rest) →
      ∃ t, exec .spectralFold s = .next t ∧ OnlyIn [.report] s t ∧ Reported [] [] s t

/-- For a RECEIVE entry in hand, RECEIVE_FOLD goes by kind, with the frame's end in Air Time and its airtime as the
fold's values give them. A corrupted frame gives Rise with r_corrupt when that enable is set, an own frame Fall with
f_clean when the clean enable is set, in the covered slices over the phase span of [end - airtime, end), unless void-
for-map or without airtime; without phase the entry counts as unphased. A foreign beacon that is not void-for-neighbour
hands the Schedule its address, interval, airtime and start, which is the end when no airtime is available. A foreign
other frame counts. Otherwise the fold ends with no count. With an entry behind the fold that ends, that entry's fold
begins in the same step: a RECEIVE entry's sample aligns, slews, counts as an outlier or steps the offset, and then the
fold takes the values of the moment. With no RECEIVE entry at the head nothing happens (log entry 3). -/
def Obligations.ReceiveFold : Prop :=
  (∀ (s : State) (f : Fold) (x : ReceiveEntry) (m n : Bool) (rest : List Entry) (a : Option Nat),
      FoldInHand f { body := .receive x, voidMap := m, voidNeighbour := n } rest s →
      a = airtimeOf f.context.radio.preamble f.context.rates x.length x.rate x.width →
      ∃ t, exec .receiveFold s = .next t ∧ t.intake.lastSequence = s.intake.lastSequence ∧
        (x.kind = .foreignOther → FoldEnded [.foreignOther] rest s t) ∧
        (x.kind = .foreignBeacon → (n = true → FoldEnded [] rest s t) ∧
          (n = false → ∃ u : BeaconUpdate,
            u = { address := x.address, interval := x.interval, airtime := a
                  start := x.frameEnd - f.context.offset - BitVec.ofNat 32 (a.getD 0) } ∧
            t.schedule = { s.schedule with requests := s.schedule.requests ++ [.update u true] } ∧
            t.intake = { s.intake with fold := some { f with handedOn := true } } ∧
            OnlyIn [.intake, .schedule, .report] s t ∧ Reported [] [] s t)) ∧
        ∀ enabled step, (x.kind = .corrupted ∧ enabled = f.context.evidence.corruptedOn ∧
            step = .rise f.context.evidence.riseCorrupt ∨
            (x.kind = .ownData ∨ x.kind = .ownOther) ∧ enabled = f.context.evidence.cleanOn ∧
            step = .fall f.context.evidence.fallClean) →
          (a = none ∨ enabled = false ∨ m = true → FoldEnded [] rest s t) ∧
          ∀ len, a = some len → enabled = true → m = false →
            (f.context.phase = none → FoldEnded [.unphasedEvidence] rest s t) ∧
            ∀ ph, f.context.phase = some ph → ∃ e, HandedToMap e [] f s t ∧
              e.span = ph.span (x.frameEnd - f.context.offset - BitVec.ofNat 32 len) len ∧
              ∀ k covered, k < 4 → (covered ↔ x.width = .mhz40 ∧ f.context.radio.width = .mhz40 ∨
                  InPrimaryPair f.context.radio.secondary k) →
                (covered → e.stepIn k = some step) ∧ (¬ covered → e.stepIn k = none)) ∧
    ∀ s : State, (∀ x m n rest, s.intake.fifo ≠ { body := .receive x, voidMap := m, voidNeighbour := n } :: rest) →
      ∃ t, exec .receiveFold s = .next t ∧ OnlyIn [.report] s t ∧ Reported [] [] s t

/-- For a COMPLETION entry in hand, COMPLETION_FOLD ends at once with no count when the feedback enable is clear or the
entry is void-for-map; without phase the entry counts as unphased. Otherwise it hands the Map one request over the phase
span of [actual start, actual start + airtime) in the entry's slices: Fall with f_success for a success and Rise with
r_fail for a failure. The alignment state does not matter. With an entry behind the fold that ends, that entry's fold
begins in the same step: a RECEIVE entry's sample aligns, slews, counts as an outlier or steps the offset, and then the
fold takes the values of the moment. With no COMPLETION entry at the head nothing happens (log entry 3). -/
def Obligations.CompletionFold : Prop :=
  (∀ (s : State) (f : Fold) (x : CompletionEntry) (m n : Bool) (rest : List Entry),
      FoldInHand f { body := .completion x, voidMap := m, voidNeighbour := n } rest s →
      ∃ t, exec .completionFold s = .next t ∧ t.intake.lastSequence = s.intake.lastSequence ∧
        (f.context.evidence.feedbackOn = false ∨ m = true → FoldEnded [] rest s t) ∧
        (f.context.evidence.feedbackOn = true → m = false →
          (f.context.phase = none → FoldEnded [.unphasedEvidence] rest s t) ∧
          ∀ ph, f.context.phase = some ph → ∃ e, HandedToMap e [] f s t ∧ e.span = ph.span x.start x.airtime ∧
            ∀ k, k < 4 → (∀ on, (on ↔ x.slices = .all ∨ x.slices = .low ∧ k < 2 ∨ x.slices = .high ∧ 2 ≤ k) →
              (¬ on → e.stepIn k = none) ∧
              (on → x.outcome = .success → e.stepIn k = some (.fall f.context.evidence.fallSuccess)) ∧
              (on → x.outcome = .failure → e.stepIn k = some (.rise f.context.evidence.riseFail))))) ∧
    ∀ s : State, (∀ x m n rest, s.intake.fifo ≠ { body := .completion x, voidMap := m, voidNeighbour := n } :: rest) →
      ∃ t, exec .completionFold s = .next t ∧ OnlyIn [.report] s t ∧ Reported [] [] s t

/-- With an evidence request in service, EVIDENCE applies to each cell of its bins and of the slices that carry a step
that step at its shift, leaves every other cell, and recounts the hot count; a rise of the hot count from 0 sets
MAP_HOT. The request leaves, and the snapshot, the settings and the counts of ageing stay. When a fold waited for the
request it ends: its entry leaves the head, and the processor is IDLE with nothing behind it. With an entry behind the
fold that ends, that entry's fold begins in the same step: a RECEIVE entry's sample aligns, slews, counts as an outlier
or steps the offset, and then the fold takes the values of the moment. With another request in service, or none, nothing
happens (log entry 3). -/
def Obligations.EvidenceIsServed : Prop :=
  (∀ (s : State) (e : Evidence) (b : Bool) (more : List MapRequest), s.map.requests = .evidence e b :: more →
      ∃ t, exec .evidence s = .next t ∧
        (∀ bin k, bin < 64 → k < 4 →
          (e.span.has bin = false ∨ e.stepIn k = none → scoreAt t.map.cells bin k = scoreAt s.map.cells bin k) ∧
          (e.span.has bin = true → (∀ n, e.stepIn k = some (.rise n) →
              scoreAt t.map.cells bin k = riseScore (scoreAt s.map.cells bin k) n) ∧
            ∀ n, e.stepIn k = some (.fall n) →
              scoreAt t.map.cells bin k = fallScore (scoreAt s.map.cells bin k) n)) ∧
        t.map.hotCount = (t.map.cells.toList.filter fun c => decide (s.map.settings.hotLevel ≤ c)).length ∧
        t.map = { s.map with cells := t.map.cells, hotCount := t.map.hotCount, requests := more } ∧
        ServedFor b [.map, .report] (if s.map.hotCount = 0 ∧ 0 < t.map.hotCount then [.mapHot] else []) [] s t) ∧
    ∀ s : State, (∀ e b more, s.map.requests ≠ .evidence e b :: more) →
      ∃ t, exec .evidence s = .next t ∧ OnlyIn [.report] s t ∧ Reported [] [] s t

/-- With an age request in service: an age period of 0 leaves the cycle-age count at 0 and the cells as they are;
otherwise the count rises by 1, and the step that brings it to the age period makes every cell take Fall at the age
shift, each from its own score, sets the count to 0 and recounts the hot count, which cannot rise. No flag is set.
Premise: the Map's invariant (OccupancyMapStaysLegal). With another request in service, or none, nothing happens (log
entry 3). -/
def Obligations.AgeIsServed : Prop :=
  (∀ (s : State) (more : List MapRequest), s.map.requests = .age :: more → s.map.Inv →
      ∃ t, exec .age s = .next t ∧ OnlyIn [.map, .report] s t ∧ Reported [] [] s t ∧
        (s.map.settings.agePeriod = 0 → t.map = { s.map with requests := more, cycleAge := 0 }) ∧
        (s.map.cycleAge + 1 < s.map.settings.agePeriod →
          t.map = { s.map with requests := more, cycleAge := s.map.cycleAge + 1 }) ∧
        (1 ≤ s.map.settings.agePeriod → s.map.cycleAge + 1 = s.map.settings.agePeriod →
          (∀ i : Fin 256, t.map.cells[i] = fallScore s.map.cells[i] s.map.settings.ageShift) ∧
          t.map = { s.map with requests := more, cycleAge := 0, cells := t.map.cells, hotCount := t.map.hotCount } ∧
          t.map.hotCount = (t.map.cells.toList.filter fun c => decide (s.map.settings.hotLevel ≤ c)).length ∧
          t.map.hotCount ≤ s.map.hotCount)) ∧
    ∀ s : State, s.map.requests.head? ≠ some .age →
      ∃ t, exec .age s = .next t ∧ OnlyIn [.report] s t ∧ Reported [] [] s t

/-- Each is served as the request in service. A clear sets every cell, the cycle-age count and the hot count to 0 and
puts a snapshot request behind those waiting. A settings request replaces the hot level, the age period and the age
shift, sets the cycle-age count to 0 when the period changes, recounts against the new hot level and sets MAP_HOT on a
rise from 0. A snapshot request copies every cell and adds 1 to the sequence modulo 256; while a report read is open it
waits. Everything else stays. With another request in service, or none, nothing happens (log entry 3). -/
def Obligations.MapClearSettingsAndSnapshot : Prop :=
  (∀ (s : State) (more : List MapRequest), s.map.requests = .clear :: more →
      ∃ t, exec .mapClear s = .next t ∧ OnlyIn [.map, .report] s t ∧ Reported [] [] s t ∧
        t.map = { s.map with cells := Vector.replicate 256 0, cycleAge := 0, hotCount := 0, requests := more ++ [.snapshot] }) ∧
    (∀ (s : State) (m : MapSettings) (more : List MapRequest), s.map.requests = .settings m :: more →
      ∃ t, exec .mapSettings s = .next t ∧ OnlyIn [.map, .report] s t ∧
        Reported (if s.map.hotCount = 0 ∧ 0 < t.map.hotCount then [.mapHot] else []) [] s t ∧
        t.map = { s.map with
          requests := more, settings := m
          cycleAge := if m.agePeriod = s.map.settings.agePeriod then s.map.cycleAge else 0
          hotCount := (s.map.cells.toList.filter fun c => decide (m.hotLevel ≤ c)).length }) ∧
    (∀ (s : State) (more : List MapRequest), s.map.requests = .snapshot :: more →
      ∃ t, exec .snapshot s = .next t ∧ Reported [] [] s t ∧
        ((∀ r, s.bus.service ≠ some (.report r)) → OnlyIn [.map, .report] s t ∧
          t.map = { s.map with requests := more, snapshot := s.map.cells, sequence := (s.map.sequence + 1) % 256 }) ∧
        ∀ r, s.bus.service = some (.report r) → OnlyIn [.report] s t) ∧
    ∀ (s : State) (c : Instr), c = .mapClear ∧ s.map.requests.head? ≠ some .clear ∨
        c = .mapSettings ∧ (∀ m, s.map.requests.head? ≠ some (.settings m)) ∨
        c = .snapshot ∧ s.map.requests.head? ≠ some .snapshot →
      ∃ t, exec c s = .next t ∧ OnlyIn [.report] s t ∧ Reported [] [] s t

/-- With an update in range in service for the address of one entry: a changed interval re-anchors the entry; an error
against anchor + I × 1,024 within the tolerance matches, moving the anchor to the expected start plus a quarter of the
error, raising the confidence up to 7 and clearing the runs; another error is misaligned, raising the misaligned run,
lowering the confidence down to 0 and setting last-seen, with the expiry as it was, and the third in a row re-anchors.
Bn follows an available airtime. A re-anchor and a match arm the miss expiry anew; re-anchors are counted. An expiry
that is not after Air Time as armed is taken at once (R19); what follows for one exactly 2^31 microseconds away is in
log entry 26. Every other slot stays, and a fold that waited ends. With an entry behind the fold that ends, that entry's
fold begins in the same step: a RECEIVE entry's sample aligns, slews, counts as an outlier or steps the offset, and then
the fold takes the values of the moment. -/
def Obligations.BeaconOfAKnownNeighbour : Prop :=
  ∀ (s : State) (u : BeaconUpdate) (b : Bool) (more : List ScheduleRequest) (i : Fin 8) (e : Neighbour) (err : Int),
    s.schedule.requests = .update u b :: more → s.schedule.slots[i] = some e → e.address = u.address →
    (∀ j : Fin 8, ∀ x, s.schedule.slots[j] = some x → x.address = u.address → j = i) → 16 ≤ u.interval → u.interval ≤ 1023 →
    err = (u.start - (e.anchor + BitVec.ofNat 32 (e.interval * 1024))).toInt →
    ∃ t, exec .beaconUpdate s = .next t ∧
      (u.interval ≠ e.interval ∨
          (err < -(s.schedule.settings.tolerance : Int) ∨ (s.schedule.settings.tolerance : Int) < err) ∧ 2 ≤ e.misaligned →
        ServedFor b [.schedule, .report] [] [.reAnchor] s t ∧
        ArmedIn i { e with interval := u.interval, anchor := u.start, lastSeen := u.start, confidence := 1
                           missCount := 0, misaligned := 0, airtime := u.airtime.getD e.airtime } more s t) ∧
      (u.interval = e.interval → -(s.schedule.settings.tolerance : Int) ≤ err →
          err ≤ (s.schedule.settings.tolerance : Int) →
        ServedFor b [.schedule, .report] [] [] s t ∧
        ArmedIn i { e with anchor := e.anchor + BitVec.ofNat 32 (e.interval * 1024) + BitVec.ofInt 32 (err.tdiv 4)
                           confidence := if e.confidence < 7 then e.confidence + 1 else 7
                           missCount := 0, misaligned := 0, airtime := u.airtime.getD e.airtime
                           lastSeen := u.start } more s t) ∧
      (u.interval = e.interval →
          err < -(s.schedule.settings.tolerance : Int) ∨ (s.schedule.settings.tolerance : Int) < err → e.misaligned ≤ 1 →
        ServedFor b [.schedule, .report] [] [] s t ∧
        t.schedule = { s.schedule with
          requests := more
          slots := s.schedule.slots.set i (some { e with
            misaligned := e.misaligned + 1, confidence := e.confidence - 1, lastSeen := u.start }) })

/-- With an update in service: an interval outside 16..1,023 counts and changes nothing. A newcomer in range takes the
lowest-numbered FREE slot with confidence 1 and its expiry armed. In a full table the victim is the entry of lowest
confidence, then earliest last-seen, then lowest slot: at or above the protect level the newcomer is refused, setting
NEIGHBOUR_FULL and counting, and below it the victim's slot takes the newcomer and the replacement counts. Where no
last-seen is the earliest the spec names no victim: the model takes some entry of the lowest confidence, a free choice
(log entry 9). An expiry that is not after Air Time as armed is taken at once (R19); what follows for one exactly 2^31
microseconds away is in log entry 26. A fold that waited ends. With an entry behind the fold that ends, that entry's
fold begins in the same step: a RECEIVE entry's sample aligns, slews, counts as an outlier or steps the offset, and then
the fold takes the values of the moment. With no update in service nothing happens (log entry 3). -/
def Obligations.BeaconOfANewcomer : Prop :=
  (∀ (s : State) (u : BeaconUpdate) (b : Bool) (more : List ScheduleRequest) (new : Neighbour),
      s.schedule.requests = .update u b :: more →
      new = { address := u.address, interval := u.interval, anchor := u.start, airtime := u.airtime.getD 0
              confidence := 1, missCount := 0, misaligned := 0, lastSeen := u.start, expiry := u.start, taken := false } →
      ∃ t, exec .beaconUpdate s = .next t ∧
        (u.interval < 16 ∨ 1023 < u.interval → ServedFor b [.schedule, .report] [] [.intervalRange] s t ∧
          t.schedule = { s.schedule with requests := more }) ∧
        (16 ≤ u.interval → u.interval ≤ 1023 →
          (∀ j : Fin 8, ∀ x, s.schedule.slots[j] = some x → x.address ≠ u.address) →
          (∀ i : Fin 8, s.schedule.slots[i] = none → (∀ j : Fin 8, j < i → s.schedule.slots[j] ≠ none) →
            ServedFor b [.schedule, .report] [] [] s t ∧ ArmedIn i new more s t) ∧
          ((∀ j : Fin 8, s.schedule.slots[j] ≠ none) →
            (∀ (i : Fin 8) (e : Neighbour), s.schedule.slots[i] = some e →
              (∀ j : Fin 8, ∀ x, s.schedule.slots[j] = some x → e.confidence ≤ x.confidence ∧
                (x.confidence = e.confidence → 0 ≤ (x.lastSeen - e.lastSeen).toInt ∧
                  (j < i → 0 < (x.lastSeen - e.lastSeen).toInt))) →
              e.confidence < s.schedule.settings.protect →
              ServedFor b [.schedule, .report] [] [.neighbourReplaced] s t ∧ ArmedIn i new more s t) ∧
            ∃ (i : Fin 8) (e : Neighbour), s.schedule.slots[i] = some e ∧
              (∀ j : Fin 8, ∀ x, s.schedule.slots[j] = some x → e.confidence ≤ x.confidence) ∧
              (e.confidence < s.schedule.settings.protect →
                ServedFor b [.schedule, .report] [] [.neighbourReplaced] s t ∧ ArmedIn i new more s t) ∧
              (s.schedule.settings.protect ≤ e.confidence →
                ServedFor b [.schedule, .report] [.neighbourFull] [.neighbourRefused] s t ∧
                t.schedule = { s.schedule with requests := more })))) ∧
    ∀ s : State, (∀ u b more, s.schedule.requests ≠ .update u b :: more) →
      ∃ t, exec .beaconUpdate s = .next t ∧ OnlyIn [.report] s t ∧ Reported [] [] s t

/-- MISS_EXPIRY of a slot whose entry's expiry Air Time has reached, and has not yet been taken, puts it behind the
Schedule's requests, once for each arming (log entry 23); one that is not due changes nothing (log entry 3).
MISSED_BEACON serves it: with the slot FREE, another address in it (one address is one entry, by the model's choice in
log entry 25), or an expiry that Air Time has not reached, it is set aside; an entry of confidence 1 or less is freed
and counted as expired; any other loses 2 confidence, counts a miss, advances its anchor by one interval and arms its
expiry from there. An expiry that is not after Air Time as armed is taken at once (R19); what follows for one exactly
2^31 microseconds away is in log entry 26. Every other slot stays. -/
def Obligations.MissedBeacons : Prop :=
  (∀ (s : State) (i : Fin 8), ∃ t, exec (.missExpiry i) s = .next t ∧ Reported [] [] s t ∧
      (∀ e, s.schedule.slots[i] = some e → 0 ≤ (s.air.airTime - e.expiry).toInt → e.taken = false →
        OnlyIn [.schedule, .report] s t ∧ t.schedule = { s.schedule with
          slots := s.schedule.slots.set i (some { e with taken := true })
          requests := s.schedule.requests ++ [.expiry i e.address] }) ∧
      ((∀ e, s.schedule.slots[i] = some e → (s.air.airTime - e.expiry).toInt < 0 ∨ e.taken = true) →
        OnlyIn [.report] s t)) ∧
    (∀ (s : State) (i : Fin 8) (a : BitVec 48) (more : List ScheduleRequest), s.schedule.requests = .expiry i a :: more →
      ∃ t, exec .missedBeacon s = .next t ∧ OnlyIn [.schedule, .report] s t ∧
        ((∀ e, s.schedule.slots[i] = some e → e.address ≠ a ∨ (s.air.airTime - e.expiry).toInt < 0) →
          t.schedule = { s.schedule with requests := more } ∧ Reported [] [] s t) ∧
        ∀ e, s.schedule.slots[i] = some e → e.address = a → 0 ≤ (s.air.airTime - e.expiry).toInt →
          (e.confidence ≤ 1 → Reported [] [.neighbourExpired] s t ∧
            t.schedule = { s.schedule with slots := s.schedule.slots.set i none, requests := more }) ∧
          (2 ≤ e.confidence → Reported [] [] s t ∧
            ArmedIn i { e with missCount := e.missCount + 1, confidence := e.confidence - 2
                               anchor := e.anchor + BitVec.ofNat 32 (e.interval * 1024) } more s t)) ∧
    ∀ s : State, (∀ i a more, s.schedule.requests ≠ .expiry i a :: more) →
      ∃ t, exec .missedBeacon s = .next t ∧ OnlyIn [.report] s t ∧ Reported [] [] s t

/-- With a clear request in service NEIGHBOUR_CLEAR makes every slot FREE. With a settings request in service
NEIGHBOUR_SETTINGS replaces the tolerance, the guards and the protect level; when the tolerance changed, every entry's
expiry is armed at anchor + I × 1,024 + the new tolerance, and the expiries that are then not after Air Time are taken
at once (R19), behind the waiting requests and, by the model's choice (log entry 7), in slot order; what follows for one
exactly 2^31 microseconds away is in log entry 26. No anchor, interval, confidence or run changes. With another request
in service, or none, nothing happens (log entry 3). -/
def Obligations.NeighbourClearAndSettings : Prop :=
  (∀ (s : State) (more : List ScheduleRequest), s.schedule.requests = .clear :: more →
      ∃ t, exec .neighbourClear s = .next t ∧ OnlyIn [.schedule, .report] s t ∧ Reported [] [] s t ∧
        t.schedule = { s.schedule with slots := Vector.replicate 8 none, requests := more }) ∧
    (∀ (s : State) (n : NeighbourFields) (more : List ScheduleRequest), s.schedule.requests = .settings n :: more →
      ∃ t, exec .neighbourSettings s = .next t ∧ OnlyIn [.schedule, .report] s t ∧ Reported [] [] s t ∧
        (n.tolerance = s.schedule.settings.tolerance →
          t.schedule = { s.schedule with settings := n, requests := more }) ∧
        (n.tolerance ≠ s.schedule.settings.tolerance → ∀ (x : Neighbour → Time) (late : Neighbour → Bool),
          (∀ e, x e = e.anchor + BitVec.ofNat 32 (e.interval * 1024 + n.tolerance)) →
          (∀ e, late e = true ↔ (x e - s.air.airTime).toInt ≤ 0) →
          t.schedule.settings = n ∧
          (∀ i : Fin 8, t.schedule.slots[i] =
            s.schedule.slots[i].map fun e => { e with expiry := x e, taken := late e }) ∧
          t.schedule.requests = more ++ (List.finRange 8).filterMap fun i =>
            (s.schedule.slots[i].filter late).map fun e => .expiry i e.address)) ∧
    ∀ (s : State) (c : Instr), c = .neighbourClear ∧ s.schedule.requests.head? ≠ some .clear ∨
        c = .neighbourSettings ∧ (∀ n, s.schedule.requests.head? ≠ some (.settings n)) →
      ∃ t, exec c s = .next t ∧ OnlyIn [.report] s t ∧ Reported [] [] s t

/-- A MAINS transition less than 100 microseconds after the previous one, or of a direction the edge mode does not
consider, changes nothing but the record of the transition. A considered edge that fails the spacing test, against P/4
or 3,750, or the middle window of 40% to 60% of P where R32 calls for it, counts as a glitch and changes nothing else.
One that passes both in the role MIDDLE is a middle edge: it counts as accepted, becomes the last accepted edge, and the
role becomes REFERENCE. While RESET is asserted only the level is followed, which is the model's convention (log entry
8). -/
def Obligations.MainsEdgeIsJudged : Prop :=
  ∀ (s : State) (rising : Bool), ∃ t, exec (.mainsEdge rising) s = .next t ∧
    (s.bus.resetAsserted = true → t.tracker = { s.tracker with mainsHigh := rising } ∧ OnlyIn [.tracker, .report] s t ∧
      Reported [] [] s t) ∧
    (s.bus.resetAsserted = false → ¬ Considered rising s → OnlyIn [.tracker, .report] s t ∧ Reported [] [] s t ∧
      t.tracker = { s.tracker with mainsHigh := rising, lastTransition := some s.air.airTime }) ∧
    (Considered rising s →
      (¬ (SpacingHolds s ∧ WindowHolds s) → OnlyIn [.tracker, .report] s t ∧ Reported [] [.glitch] s t ∧
        t.tracker = { s.tracker with mainsHigh := rising, lastTransition := some s.air.airTime }) ∧
      (SpacingHolds s → WindowHolds s → s.tracker.role = .middle →
        OnlyIn [.tracker, .report] s t ∧ Reported [] [.acceptedEdge] s t ∧
        t.tracker = { s.tracker with
          mainsHigh := rising, lastTransition := some s.air.airTime, lastAccepted := some s.air.airTime
          role := .reference }))

/-- An accepted edge in the role REFERENCE counts as accepted and sets the role to MIDDLE in BOTH. Its raw period is its
time less r. SEEKING without r takes it as r; a valid period takes SEEKING to LOCKING, and LOCKING, LOCKED or COASTING
out of tolerance to LOCKING with a lock count of 1. In tolerance P moves an eighth of the way: LOCKING counts, and at 4
becomes LOCKED with LOCK_GAINED, a map clear first in BOTH under the re-lock mark, which is cleared; LOCKED and COASTING
become LOCKED with the expiry armed anew; entering or keeping LOCKED sends an age step and a snapshot request; that no
other request arrives between these is the model's choice (log entry 28). A period fault counts: SEEKING, LOCKING and
LOCKED go to SEEKING with r at the edge, and COASTING stays with the role REFERENCE. LOST goes to SEEKING. -/
def Obligations.ReferenceEdgeByLockState : Prop :=
  ∀ (s : State) (rising : Bool) (base : Tracker) (now : Time), Considered rising s → SpacingHolds s → s.tracker.role = .reference →
    now = s.air.airTime → base = s.tracker.atReference rising now →
    ∃ t, exec (.mainsEdge rising) s = .next t ∧
      (s.tracker.lockState = .lost → OnlyIn [.tracker, .report] s t ∧ Reported [] [.acceptedEdge] s t ∧
        t.tracker = { base with lockState := .seeking, period := none, ref := some now, lockCount := 0, coastCount := 0
                                expiry := none }) ∧
      (s.tracker.lockState = .seeking → s.tracker.ref = none → OnlyIn [.tracker, .report] s t ∧
        Reported [] [.acceptedEdge] s t ∧ t.tracker = { base with ref := some now }) ∧
      ∀ r, s.tracker.ref = some r → ∀ p, p = (now - r).toInt →
        ((p < 15000 ∨ 22000 < p) →
          (s.tracker.lockState = .seeking ∨ s.tracker.lockState = .locking ∨ s.tracker.lockState = .locked →
            OnlyIn [.tracker, .report] s t ∧ Reported [] [.acceptedEdge, .periodFault] s t ∧
            t.tracker = { base with lockState := .seeking, period := none, ref := some now, lockCount := 0
                                    coastCount := 0, expiry := none }) ∧
          (s.tracker.lockState = .coasting → OnlyIn [.tracker, .report] s t ∧
            Reported [] [.acceptedEdge, .periodFault] s t ∧ t.tracker = { base with role := .reference })) ∧
        (15000 ≤ p → p ≤ 22000 → ∀ within : Prop,
          (within ↔ ∃ q, s.tracker.period = some q ∧ p ≤ q + q / 32 ∧ (q : Int) ≤ p + q / 32) →
          (s.tracker.lockState = .seeking ∨ ¬ within ∧ (s.tracker.lockState = .locking ∨ s.tracker.lockState = .locked ∨
              s.tracker.lockState = .coasting) →
            OnlyIn [.tracker, .report] s t ∧ Reported [] [.acceptedEdge] s t ∧
            t.tracker = { base with lockState := .locking, period := some p.toNat, ref := some now, lockCount := 1
                                    coastCount := 0, expiry := none }) ∧
          (within → ∀ q, s.tracker.period = some q → ∀ n, n = ((q : Int) + (p - q).tdiv 8).toNat →
            (s.tracker.lockState = .locking → s.tracker.lockCount ≤ 2 →
              OnlyIn [.tracker, .report] s t ∧ Reported [] [.acceptedEdge] s t ∧
              t.tracker = { base with period := some n, ref := some now, lockCount := s.tracker.lockCount + 1 }) ∧
            (s.tracker.lockState = .locking → s.tracker.lockCount = 3 → ∀ clears,
              (clears = true ↔ s.tracker.relockMark = true ∧ s.tracker.edgeMode = .both) →
              OnlyIn [.tracker, .intake, .map, .report] s t ∧ Reported [.lockGained] [.acceptedEdge] s t ∧
              t.tracker = { base with lockState := .locked, period := some n, ref := some now, lockCount := 4
                                      coastCount := 0, relockMark := false
                                      expiry := some (now + BitVec.ofNat 32 (n + n / 2)) } ∧
              t.map = { s.map with
                requests := s.map.requests ++ (if clears then [.clear] else []) ++ [.age, .snapshot] } ∧
              t.intake = { s.intake with
                fifo := s.intake.fifo.map fun e => { e with voidMap := e.voidMap || clears } }) ∧
            (s.tracker.lockState = .locked ∨ s.tracker.lockState = .coasting →
              OnlyIn [.tracker, .map, .report] s t ∧ Reported [] [.acceptedEdge] s t ∧
              t.tracker = { base with lockState := .locked, period := some n, ref := some now, coastCount := 0
                                      expiry := some (now + BitVec.ofNat 32 (n + n / 2)) } ∧
              t.map = { s.map with requests := s.map.requests ++ [.age, .snapshot] })))

/-- LOCK_EXPIRY due in LOCKED enters COASTING, and COAST_EXPIRY due in COASTING adds 1 to the coast count: while that is
at most the coast limit a virtual reference edge stands at r + P, the expiry is armed half a period and a period after
it, the role becomes MIDDLE in BOTH, and an age step and a snapshot request are sent, with no other request arriving
between them by the model's choice (log entry 28). Past the limit the tracker enters LOST: r advances, LOCK_LOST is set,
the expiry is disarmed, the re-lock mark is set, the role becomes REFERENCE, and nothing is sent. P stays, and nothing
is counted. Either command changes nothing in another lock state or before its expiry (log entry 3). -/
def Obligations.CoastAndLoss : Prop :=
  (∀ (s : State) (c : Instr) (n : Nat) (x r : Time) (p : Nat), s.tracker.expiry = some x → 0 ≤ (s.air.airTime - x).toInt →
      s.tracker.ref = some r → s.tracker.period = some p →
      c = .lockExpiry ∧ s.tracker.lockState = .locked ∧ n = 1 ∨
        c = .coastExpiry ∧ s.tracker.lockState = .coasting ∧ n = s.tracker.coastCount + 1 →
      ∃ t, exec c s = .next t ∧
        (c = .lockExpiry ∨ n ≤ s.tracker.coastLimit → OnlyIn [.tracker, .map, .report] s t ∧ Reported [] [] s t ∧
          t.tracker = { s.tracker with
            lockState := .coasting, ref := some (r + BitVec.ofNat 32 p), coastCount := n
            expiry := some (r + BitVec.ofNat 32 p + BitVec.ofNat 32 (p + p / 2))
            role := if s.tracker.edgeMode = .both then .middle else .reference } ∧
          t.map = { s.map with requests := s.map.requests ++ [.age, .snapshot] }) ∧
        (c = .coastExpiry → s.tracker.coastLimit < n → OnlyIn [.tracker, .report] s t ∧ Reported [.lockLost] [] s t ∧
          t.tracker = { s.tracker with
            lockState := .lost, ref := some (r + BitVec.ofNat 32 p), coastCount := n, expiry := none
            role := .reference, relockMark := true })) ∧
    ∀ (s : State) (c : Instr), c = .lockExpiry ∧ s.tracker.lockState ≠ .locked ∨
        c = .coastExpiry ∧ s.tracker.lockState ≠ .coasting ∨
        (c = .lockExpiry ∨ c = .coastExpiry) ∧ (∀ x, s.tracker.expiry = some x → (s.air.airTime - x).toInt < 0) →
      ∃ t, exec c s = .next t ∧ OnlyIn [.report] s t ∧ Reported [] [] s t

/-- A WINDOWS record whose sum is 0 is checked in order: each base a multiple of its element size (WINDOW-ALIGN), no
count 0 (WINDOW-ZERO), counts within 1,024, 1,024 and 256 (WINDOW-COUNT), every end at or below 16,777,216 (WINDOW-
RANGE), no address in two windows (WINDOW-OVERLAP). A record that fails is refused with that reason and changes nothing
else. One that passes replaces the windows, empties the pending transmit list, adds its kind to the received-kinds set
and records itself as accepted. The write goes to memory as it arrived. -/
def Obligations.WindowsRecord : Prop :=
  ∀ (s : State) (addr : Addr) (body : RecordBody) (w : Windows), TakesRecord s addr → (recordFrame 1#8 body).sum = 0#32 →
    w = { tx := { base := (body.w2.extractLsb' 0 24).toNat, count := (body.w6.extractLsb' 0 11).toNat }
          rx := { base := (body.w3.extractLsb' 0 24).toNat, count := (body.w6.extractLsb' 11 11).toNat }
          spectral := { base := (body.w4.extractLsb' 0 24).toNat, count := (body.w6.extractLsb' 22 10).toNat }
          report := (body.w5.extractLsb' 0 24).toNat } →
    ∃ t, exec (.windows addr body) s = .next t ∧ CarriedRecord addr (recordFrame 1#8 body) s t ∧
      ∀ aligned full counted inRange apart : Prop,
        (aligned ↔ w.tx.base % 32 = 0 ∧ w.rx.base % 16 = 0 ∧ w.spectral.base % 32 = 0 ∧ w.report % 512 = 0) →
        (full ↔ w.tx.count ≠ 0 ∧ w.rx.count ≠ 0 ∧ w.spectral.count ≠ 0) →
        (counted ↔ w.tx.count ≤ 1024 ∧ w.rx.count ≤ 1024 ∧ w.spectral.count ≤ 256) →
        (inRange ↔ w.tx.base + 32 * w.tx.count ≤ 16777216 ∧ w.rx.base + 16 * w.rx.count ≤ 16777216 ∧
          w.spectral.base + 32 * w.spectral.count ≤ 16777216 ∧ w.report + 512 ≤ 16777216) →
        (apart ↔ ∀ a, [w.tx.holds 32 a, w.rx.holds 16 a, w.spectral.holds 32 a, w.inReport a].count true ≤ 1) →
        (¬ aligned → RefusedWith .windowAlign body.sequence s t) ∧
        (aligned → ¬ full → RefusedWith .windowZero body.sequence s t) ∧
        (aligned → full → ¬ counted → RefusedWith .windowCount body.sequence s t) ∧
        (aligned → full → counted → ¬ inRange → RefusedWith .windowRange body.sequence s t) ∧
        (aligned → full → counted → inRange → ¬ apart → RefusedWith .windowOverlap body.sequence s t) ∧
        (aligned → full → counted → inRange → apart →
          t.bus.windows = some w ∧ t.rewriter.entries = [] ∧ t.policy = s.policy.afterKind 1 body.sequence ∧
          OnlyIn [.rewriter, .policy, .report, .bus] s t ∧ Reported [.policyAccepted] [] s t)

/-- A RADIO record whose sum is 0 is refused for a channel outside 1..14 (CHANNEL), a width that is neither 20 nor 40
(WIDTH), or a secondary code that is undefined or does not agree with the width (SECONDARY), in that order. Otherwise
its fields are held, a preamble below 16 clamped to 16 and counted. A change of channel empties the FIFO, leaving no
fold waiting for a request already handed on; a change of width or secondary position alone marks every entry void for
map and neighbour; either sends one map clear and one neighbour clear and empties the pending list. With none of the
three changed nothing is cleared. -/
def Obligations.RadioRecord : Prop :=
  ∀ (s : State) (addr : Addr) (body : RecordBody) (channel width code preamble : Nat), TakesRecord s addr →
    (recordFrame 2#8 body).sum = 0#32 → channel = (body.high.extractLsb' 0 8).toNat →
    width = (body.high.extractLsb' 8 8).toNat → code = (body.w2.extractLsb' 0 2).toNat →
    preamble = (body.w2.extractLsb' 8 8).toNat →
    ∃ t, exec (.radio addr body) s = .next t ∧ CarriedRecord addr (recordFrame 2#8 body) s t ∧
      (channel = 0 ∨ 14 < channel → RefusedWith .channel body.sequence s t) ∧
      (1 ≤ channel → channel ≤ 14 → width ≠ 20 → width ≠ 40 → RefusedWith .width body.sequence s t) ∧
      (1 ≤ channel → channel ≤ 14 → (width = 20 ∧ code ≠ 0 ∨ width = 40 ∧ (code = 0 ∨ code = 3)) →
        RefusedWith .secondary body.sequence s t) ∧
      ∀ x y, (width, code, x, y) ∈ [(20, 0, Width.mhz20, Secondary.none), (40, 1, .mhz40, .above), (40, 2, .mhz40, .below)] →
        1 ≤ channel → channel ≤ 14 → ∀ new : RadioFields,
        new = { channel := some channel, width := x, secondary := y
                preamble := if preamble < 16 then 16 else preamble, latency := (body.w2.extractLsb' 16 8).toNat
                access := (body.w3.extractLsb' 0 12).toNat } →
        t.policy = { s.policy.afterKind 2 body.sequence with radio := new } ∧ t.bus.windows = s.bus.windows ∧
        Reported [.policyAccepted] (if preamble < 16 then [.clamp] else []) s t ∧
        (s.policy.radio.channel ≠ some channel → OnlyIn [.intake, .map, .schedule, .rewriter, .policy, .report, .bus] s t ∧
          t.intake = { fifo := [], fold := none, lastSequence := none } ∧ t.rewriter.entries = [] ∧
          t.map = { s.map with requests := s.map.requests.map MapRequest.orphaned ++ [.clear] } ∧
          t.schedule = { s.schedule with requests := s.schedule.requests.map ScheduleRequest.orphaned ++ [.clear] }) ∧
        (s.policy.radio.channel = some channel →
          (s.policy.radio.width ≠ x ∨ s.policy.radio.secondary ≠ y →
            OnlyIn [.intake, .map, .schedule, .rewriter, .policy, .report, .bus] s t ∧ t.rewriter.entries = [] ∧
            t.intake = { s.intake with
              fifo := s.intake.fifo.map fun e => { e with voidMap := true, voidNeighbour := true } } ∧
            t.map = { s.map with requests := s.map.requests ++ [.clear] } ∧
            t.schedule = { s.schedule with requests := s.schedule.requests ++ [.clear] }) ∧
          (s.policy.radio.width = x → s.policy.radio.secondary = y → OnlyIn [.policy, .report, .bus] s t))

/-- With a sum of 0: RATES-LOW replaces the entries of codes 0..7 and RATES-HIGH those of codes 8..15, value j of a
record being the eleven bits from bit 11 j of the run that word 1's high half begins, and leaves the other half. MAP
holds its fields with every shift and the hot level of 0 made 1, and sends the Map a settings request; NEIGHBOUR holds a
tolerance of at least 64 and a protect level of at least 1 and sends the Schedule one. A record of which a field was
clamped counts once. Each adds its kind, records itself as accepted and changes nothing else. -/
def Obligations.RatesMapAndNeighbourRecords : Prop :=
  (∀ (s : State) (addr : Addr) (body : RecordBody) (c : Instr) (kind base : Nat), TakesRecord s addr →
      c = .ratesLow addr body ∧ kind = 3 ∧ base = 0 ∨ c = .ratesHigh addr body ∧ kind = 4 ∧ base = 8 →
      (recordFrame (BitVec.ofNat 8 kind) body).sum = 0#32 → ∀ value : Nat → Nat,
      (∀ j, value j = ((body.w6 ++ body.w5 ++ body.w4 ++ body.w3 ++ body.w2 ++ body.high : BitVec 176).extractLsb'
        (11 * j) 11).toNat) →
      ∃ t, exec c s = .next t ∧ CarriedRecord addr (recordFrame (BitVec.ofNat 8 kind) body) s t ∧
        t.bus.windows = s.bus.windows ∧ OnlyIn [.policy, .report, .bus] s t ∧ Reported [.policyAccepted] [] s t ∧
        t.policy = { s.policy.afterKind kind body.sequence with rates := t.policy.rates } ∧
        ∀ i : Fin 16,
          (base ≤ i.val → i.val < base + 8 → t.policy.rates.d20[i] = value (2 * (i.val - base)) ∧
            t.policy.rates.d40[i] = value (2 * (i.val - base) + 1)) ∧
          (i.val < base ∨ base + 8 ≤ i.val → t.policy.rates.d20[i] = s.policy.rates.d20[i] ∧
            t.policy.rates.d40[i] = s.policy.rates.d40[i])) ∧
    (∀ (s : State) (addr : Addr) (body : RecordBody) (shift : Nat → Nat) (hot age : Nat), TakesRecord s addr →
      (recordFrame 6#8 body).sum = 0#32 → (∀ n, shift n = (body.w2.extractLsb' (4 * n) 3).toNat) →
      hot = (body.w3.extractLsb' 16 8).toNat → age = (body.w4.extractLsb' 0 3).toNat → ∀ m : MapFields,
      m = { riseScan := max 1 (shift 0), fallScan := max 1 (shift 1), riseCorrupt := max 1 (shift 2)
            fallClean := max 1 (shift 3), riseFail := max 1 (shift 4), fallSuccess := max 1 (shift 5)
            hitLevel := (body.w3.extractLsb' 0 8).toInt, busyMinimum := (body.w3.extractLsb' 8 8).toNat
            corruptedOn := body.w4.getLsbD 8, cleanOn := body.w4.getLsbD 9, feedbackOn := body.w4.getLsbD 10
            settings := { hotLevel := max 1 hot, agePeriod := (body.w3.extractLsb' 24 8).toNat, ageShift := max 1 age } } →
      ∃ t, exec (.map addr body) s = .next t ∧ CarriedRecord addr (recordFrame 6#8 body) s t ∧
        t.bus.windows = s.bus.windows ∧ OnlyIn [.map, .policy, .report, .bus] s t ∧
        t.policy = { s.policy.afterKind 6 body.sequence with map := m } ∧
        t.map = { s.map with requests := s.map.requests ++ [.settings m.settings] } ∧
        Reported [.policyAccepted]
          (if shift 0 = 0 ∨ shift 1 = 0 ∨ shift 2 = 0 ∨ shift 3 = 0 ∨ shift 4 = 0 ∨ shift 5 = 0 ∨ hot = 0 ∨ age = 0
            then [.clamp] else []) s t) ∧
    ∀ (s : State) (addr : Addr) (body : RecordBody) (tolerance protect : Nat), TakesRecord s addr →
      (recordFrame 7#8 body).sum = 0#32 → tolerance = (body.w2.extractLsb' 0 12).toNat →
      protect = (body.w3.extractLsb' 16 3).toNat → ∀ n : NeighbourFields,
      n = { tolerance := max 64 tolerance, guardBefore := (body.w2.extractLsb' 16 12).toNat
            guardAfter := (body.w3.extractLsb' 0 12).toNat, protect := max 1 protect } →
      ∃ t, exec (.neighbour addr body) s = .next t ∧ CarriedRecord addr (recordFrame 7#8 body) s t ∧
        t.bus.windows = s.bus.windows ∧ OnlyIn [.schedule, .policy, .report, .bus] s t ∧
        t.policy = { s.policy.afterKind 7 body.sequence with neighbour := n } ∧
        t.schedule = { s.schedule with requests := s.schedule.requests ++ [.settings n] } ∧
        Reported [.policyAccepted] (if tolerance < 64 ∨ protect = 0 then [.clamp] else []) s t

/-- With a sum of 0: MAINS holds its edge mode and a coast limit of at least 1. With the edge mode as the tracker's own,
the tracker takes the coast limit alone; otherwise it restarts in SEEKING, or OFF, with everything it held absent, and
one map clear is sent with its void-for-map marks. SHAPING holds its fields, a timeout of 0 made 1, and the Report Unit
takes the WIN fields at once. A clamped record counts once. Each adds its kind, records itself as accepted and changes
nothing else. -/
def Obligations.MainsAndShapingRecords : Prop :=
  (∀ (s : State) (addr : Addr) (body : RecordBody) (mode : EdgeMode) (code limit : Nat), TakesRecord s addr →
      (recordFrame 5#8 body).sum = 0#32 → code = (body.w2.extractLsb' 0 2).toNat →
      (code, mode) ∈ [(0, EdgeMode.off), (1, .rising), (2, .falling), (3, .both)] →
      limit = (body.w2.extractLsb' 8 4).toNat →
      ∃ t, exec (.mains addr body) s = .next t ∧ CarriedRecord addr (recordFrame 5#8 body) s t ∧
        t.bus.windows = s.bus.windows ∧
        t.policy = { s.policy.afterKind 5 body.sequence with edgeMode := mode, coastLimit := max 1 limit } ∧
        Reported [.policyAccepted] (if limit = 0 then [.clamp] else []) s t ∧
        (mode = s.tracker.edgeMode → OnlyIn [.tracker, .policy, .report, .bus] s t ∧
          t.tracker = { s.tracker with coastLimit := max 1 limit }) ∧
        (mode ≠ s.tracker.edgeMode → OnlyIn [.tracker, .intake, .map, .policy, .report, .bus] s t ∧
          t.tracker = { s.tracker with
            edgeMode := mode, coastLimit := max 1 limit, lockState := if mode = .off then .off else .seeking
            period := none, ref := none, lastAccepted := none, role := .reference, lockCount := 0, coastCount := 0
            relockMark := false, expiry := none } ∧
          t.intake = { s.intake with fifo := s.intake.fifo.map fun e => { e with voidMap := true } } ∧
          t.map = { s.map with requests := s.map.requests ++ [.clear] })) ∧
    ∀ (s : State) (addr : Addr) (body : RecordBody) (timeout : Nat) (win : WinFields), TakesRecord s addr →
      (recordFrame 8#8 body).sum = 0#32 → timeout = (body.w3.extractLsb' 0 8).toNat →
      win = { lead := (body.w3.extractLsb' 16 12).toNat, activeLow := body.w4.getLsbD 0, enable := body.w4.getLsbD 1
              neighbourOption := body.w4.getLsbD 2 } →
      ∃ t, exec (.shaping addr body) s = .next t ∧ CarriedRecord addr (recordFrame 8#8 body) s t ∧
        t.bus.windows = s.bus.windows ∧ OnlyIn [.policy, .report, .bus] s t ∧ t.report.win = win ∧
        Reported [.policyAccepted] (if timeout = 0 then [.clamp] else []) s
          { t with report := { t.report with win := s.report.win } } ∧
        t.policy = { s.policy.afterKind 8 body.sequence with
          win := win
          shaping := { holdLimit := (body.w2.extractLsb' 0 14).toNat, reliefCount := (body.w2.extractLsb' 16 4).toNat
                       acceptLevel := (body.w2.extractLsb' 24 8).toNat, timeoutMs := max 1 timeout } }

/-- With a sum of 0, a KEEPALIVE record holds its period, a period of 0 made 1 and counted. The refresh is refused as
NOT-READY in UNCONFIGURED; in STANDBY it enters ACTIVE with the relief counter 0, and in ACTIVE it stays there and
leaves the relief counter; in both the counter is loaded with the period. The release takes ACTIVE to STANDBY with the
counter 0 and leaves the other modes. A value that is neither is refused as KEEPALIVE-VALUE in every mode. An accepted
record is recorded with kind 9; no other state changes. -/
def Obligations.KeepaliveRecords : Prop :=
  ∀ (s : State) (addr : Addr) (body : RecordBody) (period : Nat), TakesRecord s addr →
    period = max 1 (body.w2.extractLsb' 16 8).toNat →
    ∀ (counted : List Counter) (p : Policy), counted = (if (body.w2.extractLsb' 16 8).toNat = 0 then [.clamp] else []) →
    p = { s.policy with lastAcceptedKind := 9#8, lastAcceptedSequence := body.sequence, keepalivePeriod := period } →
    ((keepaliveFrame 0x5AC3#16 body).sum = 0#32 → ∃ t, exec (.keepaliveRefresh addr body) s = .next t ∧
      CarriedRecord addr (keepaliveFrame 0x5AC3#16 body) s t ∧ t.bus.windows = s.bus.windows ∧
      (s.policy.mode = .unconfigured → RefusedWith .notReady body.sequence s t) ∧
      (s.policy.mode ≠ .unconfigured → t.policy = { p with mode := .active, keepaliveCounter := period } ∧
        OnlyIn [.admission, .policy, .report, .bus] s t ∧ Reported [.policyAccepted] counted s t ∧
        t.admission = { s.admission with relief := if s.policy.mode = .standby then 0 else s.admission.relief })) ∧
    ((keepaliveFrame 0#16 body).sum = 0#32 → ∃ t, exec (.keepaliveRelease addr body) s = .next t ∧
      CarriedRecord addr (keepaliveFrame 0#16 body) s t ∧ t.bus.windows = s.bus.windows ∧
      OnlyIn [.policy, .report, .bus] s t ∧ Reported [.policyAccepted] counted s t ∧
      (s.policy.mode = .active → t.policy = { p with mode := .standby, keepaliveCounter := 0 }) ∧
      (s.policy.mode ≠ .active → t.policy = p)) ∧
    ∀ value, value ≠ 0x5AC3#16 → value ≠ 0#16 → (keepaliveFrame value body).sum = 0#32 →
      ∃ t, exec (.keepaliveValue addr value body) s = .next t ∧ CarriedRecord addr (keepaliveFrame value body) s t ∧
        RefusedWith .keepaliveValue body.sequence s t

/-- A record of kind code 0 or 13..255 with a sum of 0 is refused as UNKNOWN-KIND, and so changes only the last rejected
record, POLICY_REJECTED and the reject counter. A record of any kind whose sum is not 0, written by any record row or by
a CPU write in general, counts one checksum failure and changes nothing else. The eight words of a record row are the
marker, word 1 with the kind code in bits 7:0, the sequence in bits 15:8 and the high half, the payload and the
checksum; a KEEPALIVE row puts its value in the low half of word 2 and a CLEAR row sets its own bit. The sum is that of
the eight words modulo 2^32. A CPU write outside the TX ring that has another length than 8 words, another start than a
multiple of 32, a byte enable clear, a word in a window or another word 0 than the marker is an ordinary write and
changes nothing. Each write goes to memory as it arrived. -/
def Obligations.RecordsThatAreNotActedOn : Prop :=
  (∀ (kind : BitVec 8) (value : BitVec 16) (bit : Nat) (b : RecordBody),
      recordFrame kind b = { w0 := 0x6A3C31E5#32, w1 := (b.high ++ b.sequence ++ kind : BitVec 32), w2 := b.w2, w3 := b.w3
                             w4 := b.w4, w5 := b.w5, w6 := b.w6, w7 := b.checksum } ∧
      keepaliveFrame value b = { recordFrame 9#8 b with w2 := b.w2.extractLsb' 16 16 ++ value } ∧
      clearFrame bit b = { recordFrame 11#8 b with w2 := b.w2 ||| (1#32 <<< bit) }) ∧
    (∀ w : Words8, w.sum = w.w0 + w.w1 + w.w2 + w.w3 + w.w4 + w.w5 + w.w6 + w.w7) ∧
    (∀ (s : State) (addr : Addr) (kind : BitVec 8) (body : RecordBody), TakesRecord s addr →
      kind.toNat = 0 ∨ 13 ≤ kind.toNat → (recordFrame kind body).sum = 0#32 →
      ∃ t, exec (.unknownKind addr kind body) s = .next t ∧ CarriedRecord addr (recordFrame kind body) s t ∧
        RefusedWith .unknownKind body.sequence s t) ∧
    (∀ (s : State) (addr : Addr) (w : Words8) (c : Instr), TakesRecord s addr → WritesRecord c addr w → w.sum ≠ 0#32 →
      ∃ t, exec c s = .next t ∧ CarriedRecord addr w s t ∧ t.bus.windows = s.bus.windows ∧
        OnlyIn [.bus, .report] s t ∧ Reported [] [.checksumFail] s t) ∧
    ∀ (s : State) (addr : Addr) (words : List WriteWord), s.bus.service = none →
      (∀ w i, s.bus.windows = some w → i < words.length → w.tx.holds 32 (addr.toNat + 4 * i) = false) →
      (words.length ≠ 8 ∨ addr.toNat % 32 ≠ 0 ∨ (∃ a ∈ words, a.enables ≠ 0xF#4) ∨
        (∃ w i, s.bus.windows = some w ∧ i < words.length ∧ w.inside (addr.toNat + 4 * i) = true) ∨
        words.head?.map WriteWord.data ≠ some 0x6A3C31E5#32) →
      ∃ t, exec (.transfer (.write .cpu addr words)) s = .next t ∧
        t.bus = { s.bus with
          mPort := some { write := true, tag := .cpu, addr := addr, length := words.length, words := words }
          uPort := [] } ∧ OnlyIn [.bus, .report] s t ∧ Reported [] [] s t

/-- A CPU write of a record's eight words, by TRANSFER, POSSIBLE_ABANDONMENT or a row of its own, does in every state
what the others do. With a sum of 0: ACKNOWLEDGE sets POLICY_ACCEPTED, then clears the masked flags and replaces the
enables. CLEAR sends a map clear with its void-for-map marks, a neighbour clear with its marks, and sets every counter
to 0, each for its own bit, and clears no flag; a CLEAR record with no bit set, which has no row of its own (log entry
16), is accepted and has no other effect. Each records its kind and sequence and changes nothing else. RESTART returns
every block to its pin-reset state but for the Air Time Unit, drops the windows, and then records itself with
POLICY_ACCEPTED set, ATTN released and WIN low; the level and the last transition of MAINS, the ports and the queue
stay, by the model's convention (log entry 8). -/
def Obligations.AcknowledgeClearAndRestart : Prop :=
  (∀ (s : State) (addr : Addr) (body : RecordBody), TakesRecord s addr → (recordFrame 10#8 body).sum = 0#32 →
      ∃ t, exec (.acknowledge addr body) s = .next t ∧ CarriedRecord addr (recordFrame 10#8 body) s t ∧
        t.bus.windows = s.bus.windows ∧ OnlyIn [.policy, .report, .bus] s t ∧
        t.policy = { s.policy with lastAcceptedKind := 10#8, lastAcceptedSequence := body.sequence } ∧
        t.report.flags = (s.report.flags ||| 1#16) &&& ~~~(body.w2.extractLsb' 0 16) ∧
        t.report.enables = body.w2.extractLsb' 16 16 ∧ t.report.win = s.report.win ∧
        ∀ k : Counter, t.counter k = s.counter k) ∧
    (∀ (s : State) (addr : Addr) (body : RecordBody) (c : Instr) (bit : Nat) (w2 : Word), TakesRecord s addr →
      c = .clearMap addr body ∧ bit = 0 ∨ c = .clearNeighbours addr body ∧ bit = 1 ∨ c = .clearCounters addr body ∧ bit = 2 →
      (clearFrame bit body).sum = 0#32 → w2 = body.w2 ||| (1#32 <<< bit) →
      ∃ t, exec c s = .next t ∧ CarriedRecord addr (clearFrame bit body) s t ∧ t.bus.windows = s.bus.windows ∧
        OnlyIn [.intake, .map, .schedule, .policy, .report, .bus] s t ∧
        t.policy = { s.policy with lastAcceptedKind := 11#8, lastAcceptedSequence := body.sequence } ∧
        t.intake = { s.intake with fifo := s.intake.fifo.map fun e => { e with
          voidMap := e.voidMap || w2.getLsbD 0, voidNeighbour := e.voidNeighbour || w2.getLsbD 1 } } ∧
        t.map = { s.map with requests := s.map.requests ++ if w2.getLsbD 0 then [.clear] else [] } ∧
        t.schedule = { s.schedule with requests := s.schedule.requests ++ if w2.getLsbD 1 then [.clear] else [] } ∧
        t.report.flags = s.report.flags ||| 1#16 ∧ t.report.enables = s.report.enables ∧ t.report.win = s.report.win ∧
        ∀ k : Counter, t.counter k = if w2.getLsbD 2 then 0 else s.counter k) ∧
    (∀ (s : State) (addr : Addr) (w : Words8) (c : Instr), WritesRecord c addr w →
      exec c s = exec (.transfer (.write .cpu addr w.toWrite)) s) ∧
    (∀ (s : State) (addr : Addr) (w : Words8) (c : Instr), TakesRecord s addr →
      w.w0 = 0x6A3C31E5#32 → c = .transfer (.write .cpu addr w.toWrite) ∨ c = .possibleAbandonment addr w.toWrite →
      w.w1.extractLsb' 0 8 = 11#8 → w.w2.extractLsb' 0 3 = 0#3 → w.sum = 0#32 →
      ∃ t, exec c s = .next t ∧ CarriedRecord addr w s t ∧ t.bus.windows = s.bus.windows ∧
        OnlyIn [.policy, .report, .bus] s t ∧ Reported [.policyAccepted] [] s t ∧
        t.policy = { s.policy with lastAcceptedKind := 11#8, lastAcceptedSequence := w.w1.extractLsb' 8 8 }) ∧
    ∀ (s : State) (addr : Addr) (body : RecordBody), TakesRecord s addr → (recordFrame 12#8 body).sum = 0#32 →
      ∃ t, exec (.restart addr body) s = .next t ∧ CarriedRecord addr (recordFrame 12#8 body) s t ∧
        t = { State.reset with
          air := s.air
          tracker := { State.reset.tracker with
            mainsHigh := s.tracker.mainsHigh, lastTransition := s.tracker.lastTransition }
          policy := { State.reset.policy with lastAcceptedKind := 12#8, lastAcceptedSequence := body.sequence }
          report := { State.reset.report with flags := 1#16 }
          bus := { s.bus with windows := none, mPort := t.bus.mPort, uPort := [] }
          pending := s.pending }

/-- From every state whose Occupancy Map is legal, every command leaves the Map legal: every cell and snapshot score in
0..255, the hot count the number of cells at or above the hot level, the settings held and those on their way in range,
the cycle-age count below the age period, and the snapshot sequence in 0..255. -/
def Obligations.OccupancyMapStaysLegal : Prop :=
  ∀ (c : Instr) (s t : State), s.map.Inv → exec c s = .next t → t.map.Inv

/-- From every state whose tracker is legal, every command leaves it legal: a period present lies in 15,000..22,000; P
is absent exactly in OFF and SEEKING, and with P there is a reference; an expiry is armed exactly in LOCKED and
COASTING, at r + P + P/2; the lock state is OFF exactly in edge mode OFF; outside BOTH the role is REFERENCE; the coast
limit lies in 1..15; and the lock count, the coast count and the re-lock mark lie where the lock state puts them. -/
def Obligations.TrackerStaysLegal : Prop :=
  ∀ (c : Instr) (s t : State), s.tracker.Inv → exec c s = .next t → t.tracker.Inv

/-- From every state that meets it, every command keeps the invariant of Record Intake: the FIFO holds at most 8
entries; the processor is IDLE exactly when the FIFO is empty; and the fold in progress waits for exactly one request at
the Map or the Schedule when it has handed one on, and no request is awaited otherwise. -/
def Obligations.IntakeStaysConsistent : Prop :=
  ∀ (c : Instr) (s t : State), s.IntakeInv → exec c s = .next t → t.IntakeInv

/-- From every state whose Schedule is legal, every command leaves it legal: each entry's interval lies in 16..1,023,
its airtime in 0..65,535 and its runs and confidence in range, twice the miss count with the confidence at most 7; its
miss expiry is armed one interval and the tolerance after its anchor; no two entries have one address; and the settings
held and on their way lie in their ranges. And every command keeps, from every state that meets it, that in UNCONFIGURED
the neighbour table, the FIFO and the pending transmit list are empty, with no beacon update on its way, no admission in
progress or to come, and no record of a write in service left to cut out. -/
def Obligations.ScheduleStaysLegal : Prop :=
  (∀ (c : Instr) (s t : State), s.schedule.Inv → exec c s = .next t → t.schedule.Inv) ∧
    ∀ (c : Instr) (s t : State), s.UnconfiguredEmpty → exec c s = .next t → t.UnconfiguredEmpty

/-- From every state that meets it, every command keeps the invariant of the pending transmit list: at most 16 entries;
never two for one descriptor index, nor one for the index of the admission in progress; a rewritten not-before exactly
with a deferral, and never 0; a narrowing only of a narrowable 40 MHz frame; a pinned frame only as PASS/PINNED; a
planned end one airtime after the planned start; a relief counter of at most 15; and an admission in progress only while
a TX-DMA read is in service. And every command keeps, from every state that meets it, that in UNCONFIGURED the list is
empty, with no admission in progress and none waiting behind a held descriptor. -/
def Obligations.PendingListStaysConsistent : Prop :=
  (∀ (c : Instr) (s t : State), s.PendingInv → exec c s = .next t → t.PendingInv) ∧
    ∀ (c : Instr) (s t : State), s.UnconfiguredPending → exec c s = .next t → t.UnconfiguredPending

/-- From every state whose policy is legal, every command leaves it legal: every field in the range that its record's
rule gives it (the RADIO fields, the rates, the edge mode's coast limit, the MAP fields with the hit level in -128..127
and the busy minimum in 0..255, the NEIGHBOUR and the SHAPING fields) and every window legal with no address in two; the
received-kinds set full exactly outside UNCONFIGURED; the keep-alive counter in 1..255 in ACTIVE and 0 elsewhere, and
its period in 1..255; and the copies that the tracker and the Report Unit keep equal to the fields held. -/
def Obligations.PolicyStaysLegal : Prop :=
  ∀ (c : Instr) (s t : State), s.PolicyInv → exec c s = .next t → t.PolicyInv

/-- From every state that meets it, every command keeps the invariant of the Report Unit: counters in 0..65,535, flags
10..15 clear, ATTN as the flags and enables give, and an outlier run of at most 3. Across a command a counter decreases
only when every counter is then 0 and the command is a pin reset, or itself writes the RESTART record, or the CLEAR
record with its counters bit set, that is the last accepted one afterwards; a flag becomes clear only when the command
is a pin reset, or itself writes the RESTART record, or the ACKNOWLEDGE record whose mask holds the flag, that is the
last accepted one afterwards. -/
def Obligations.CountersSaturateAndFlagsStay : Prop :=
  ∀ (c : Instr) (s t : State), s.ReportInv → exec c s = .next t → t.ReportInv ∧
    (∀ k : Counter, t.counter k < s.counter k → (∀ j : Counter, t.counter j = 0) ∧
      (c = .pinReset ∨ ∃ w2, LeavesRecord c s t 12#8 w2 ∨ LeavesRecord c s t 11#8 w2 ∧ w2.getLsbD 2 = true)) ∧
    ∀ n, s.report.flags.getLsbD n = true → t.report.flags.getLsbD n = false →
      c = .pinReset ∨ ∃ w2, LeavesRecord c s t 12#8 w2 ∨ LeavesRecord c s t 10#8 w2 ∧ w2.getLsbD n = true

/-- The state after reset meets the invariants of the Occupancy Map, the tracker, Record Intake, the Neighbour Schedule,
the pending transmit list, the Policy Unit and the Report Unit, and holds nothing in the neighbour table, the FIFO and
the pending transmit list. -/
def Obligations.ResetMeetsTheInvariants : Prop :=
  State.reset.map.Inv ∧ State.reset.tracker.Inv ∧ State.reset.IntakeInv ∧ State.reset.schedule.Inv ∧ State.reset.PendingInv ∧
    State.reset.PolicyInv ∧ State.reset.ReportInv ∧ State.reset.UnconfiguredEmpty
end

