-- ==== Sys2Proof/Laws/Blackout.lean ====
section
/-! SUPPORT. The blackout windows as the readers' questions count them (R98, R99): the window the model computes is the first of
those that the questions speak of. -/

namespace Sys2Proof.Machine

/-- The least k is one. -/
theorem leastEndingAfter_ends (period reach : Nat) (x : Int) (hp : 0 < period) :
    x < leastEndingAfter period reach x * period + reach := by
  unfold leastEndingAfter
  split
  · simpa using ‹_›
  · rename_i h
    have hx : 0 ≤ x - reach := by omega
    have hq : 0 ≤ (x - reach) / (period : Int) := Int.ediv_nonneg hx (by omega)
    have hr : x - reach < ((x - reach) / (period : Int) + 1) * period :=
      Int.lt_ediv_add_one_mul_self _ (by omega)
    push_cast
    rw [Int.toNat_of_nonneg hq]
    omega

/-- No smaller k is one. -/
theorem leastEndingAfter_least (period reach : Nat) (x : Int) (hp : 0 < period) (k : Nat) (h : x < k * period + reach) :
    leastEndingAfter period reach x ≤ k := by
  unfold leastEndingAfter
  split
  · omega
  · have hq : (x - reach) / (period : Int) < k := Int.ediv_lt_of_lt_mul (by omega) (by linarith)
    have h0 : 0 ≤ (x - reach) / (period : Int) := Int.ediv_nonneg (by omega) (by omega)
    have : ((x - reach) / (period : Int)).toNat < k := (Int.toNat_lt h0).2 hq
    omega

/-- The first window is one that ends after both times. -/
theorem Neighbour.firstWindow_ends (e : Neighbour) (g : NeighbourFields) (now : Time) (x : Int) (hp : 0 < e.period) :
    sdiff now e.anchor < e.firstWindow g now x * e.period + e.reach g ∧ x < e.firstWindow g now x * e.period + e.reach g := by
  have grow : ∀ a b : Nat, a ≤ b → (a : Int) * e.period ≤ b * e.period := fun a b h =>
    Int.mul_le_mul_of_nonneg_right (by omega) (by omega)
  have h1 := leastEndingAfter_ends e.period (e.reach g) (sdiff now e.anchor) hp
  have h2 := leastEndingAfter_ends e.period (e.reach g) x hp
  have g1 := grow _ _ (Nat.le_max_left (leastEndingAfter e.period (e.reach g) (sdiff now e.anchor))
    (leastEndingAfter e.period (e.reach g) x))
  have g2 := grow _ _ (Nat.le_max_right (leastEndingAfter e.period (e.reach g) (sdiff now e.anchor))
    (leastEndingAfter e.period (e.reach g) x))
  exact ⟨by unfold Neighbour.firstWindow; omega, by unfold Neighbour.firstWindow; omega⟩

/-- No window before the first ends after both times. -/
theorem Neighbour.firstWindow_least (e : Neighbour) (g : NeighbourFields) (now : Time) (x : Int) (hp : 0 < e.period) (k : Nat)
    (h1 : sdiff now e.anchor < k * e.period + e.reach g) (h2 : x < k * e.period + e.reach g) :
    e.firstWindow g now x ≤ k :=
  max_le (leastEndingAfter_least _ _ _ hp k h1) (leastEndingAfter_least _ _ _ hp k h2)

/-- The first question of R99 for one entry: it is blocked exactly when one of its windows that end after the present time
meets the interval. -/
theorem Neighbour.blocks_iff (e : Neighbour) (g : NeighbourFields) (lead : Nat) (now a : Time) (n : Nat)
    (h : 1 ≤ e.interval) : e.blocks g lead now a n = true ↔ ∃ k : Nat, WindowMeets e g lead now a n k := by
  have hp : 0 < e.period := by unfold Neighbour.period; omega
  have hper : (e.period : Int) = e.interval * 1024 := by unfold Neighbour.period; push_cast; rfl
  have hreach : ((e.reach g : Nat) : Int) = e.airtime + g.guardAfter := by unfold Neighbour.reach; push_cast; rfl
  simp only [Neighbour.blocks, decide_eq_true_eq, WindowMeets]
  have place : e.placeOf now a = (now - e.anchor).toInt + (a - now).toInt := rfl
  constructor
  · intro hk
    obtain ⟨h1, h2⟩ := e.firstWindow_ends g now (e.placeOf now a) hp
    refine ⟨e.firstWindow g now (e.placeOf now a), ?_, ?_, ?_⟩
    · simp only [sdiff, hper, hreach] at h1; linarith
    · rw [← place]; rw [hper, hreach] at h2; linarith
    · rw [← place]; push_cast at hk ⊢; rw [hper] at hk; linarith
  · rintro ⟨k, h1, h2, h3⟩
    rw [← place] at h2 h3
    have hle := e.firstWindow_least g now (e.placeOf now a) hp k
      (by simp only [sdiff, hper, hreach]; linarith) (by rw [hper, hreach]; linarith)
    have : (e.firstWindow g now (e.placeOf now a) : Int) * e.period ≤ k * e.period :=
      Int.mul_le_mul_of_nonneg_right (by omega) (by omega)
    push_cast
    rw [hper] at this ⊢
    linarith

/-- An entry is among the TRACKED ones exactly when a slot holds it with confidence 3 or more (R87). -/
theorem mem_trackedEntries (slots : Vector (Option Neighbour) 8) (e : Neighbour) :
    e ∈ trackedEntries slots ↔ ∃ i : Fin 8, slots[i] = some e ∧ 3 ≤ e.confidence := by
  unfold trackedEntries
  simp only [List.mem_filterMap, Vector.mem_toList_iff, Vector.mem_iff_getElem]
  constructor
  · rintro ⟨o, ⟨i, hi, rfl⟩, ho⟩
    split at ho
    · rename_i f hf
      split at ho
      · rename_i ht
        cases ho
        exact ⟨⟨i, hi⟩, hf, by simpa [Neighbour.tracked] using ht⟩
      · cases ho
    · cases ho
  · rintro ⟨i, hi, hc⟩
    exact ⟨some e, ⟨i.val, i.isLt, hi⟩, by simp [Neighbour.tracked, hc]⟩

/-- The first question of R99 for the table. -/
theorem anyBlocks_iff (slots : Vector (Option Neighbour) 8) (g : NeighbourFields) (lead : Nat) (now a : Time) (n : Nat)
    (h : ∀ i : Fin 8, ∀ e, slots[i] = some e → 1 ≤ e.interval) :
    anyBlocks slots g lead now a n = true ↔ TrackedWindowMeets slots g lead now a n := by
  simp only [anyBlocks, List.any_eq_true, mem_trackedEntries, TrackedWindowMeets]
  constructor
  · rintro ⟨e, ⟨i, hi, hc⟩, hb⟩
    exact ⟨i, e, hi, hc, (e.blocks_iff g lead now a n (h i e hi)).1 hb⟩
  · rintro ⟨i, e, hi, hc, hb⟩
    exact ⟨e, ⟨i, hi, hc⟩, (e.blocks_iff g lead now a n (h i e hi)).2 hb⟩

end Sys2Proof.Machine
end

