-- ==== Sys2Proof/Laws/Exec.lean ====
section
/-! SUPPORT. The form of every answer: a next state whose lines have been driven. -/

namespace Sys2Proof.Machine

/-- Every command answers a next state, driven to its lines. -/
theorem exec_answers (c : Instr) (s : State) : ∃ u : State, exec c s = .next u.driveLines := by
  cases c with
  | descriptorRead e => cases e <;> exact ⟨_, rfl⟩
  | reportRead e => cases e <;> exact ⟨_, rfl⟩
  | completionCandidate _ e => cases e <;> exact ⟨_, rfl⟩
  | receiveRecordIntake _ e => cases e <;> exact ⟨_, rfl⟩
  | admissionResult => simp only [exec, execAdmissionResult]; split <;> exact ⟨_, rfl⟩
  | spectralFold => simp only [exec, execSpectralFold]; split <;> exact ⟨_, rfl⟩
  | receiveFold => simp only [exec, execReceiveFold]; split <;> exact ⟨_, rfl⟩
  | completionFold => simp only [exec, execCompletionFold]; split <;> exact ⟨_, rfl⟩
  | evidence => simp only [exec, execEvidence]; split <;> exact ⟨_, rfl⟩
  | age => simp only [exec, execAge]; split <;> exact ⟨_, rfl⟩
  | mapClear => simp only [exec, execMapClear]; split <;> exact ⟨_, rfl⟩
  | mapSettings => simp only [exec, execMapSettings]; split <;> exact ⟨_, rfl⟩
  | beaconUpdate => simp only [exec, execBeaconUpdate]; split <;> exact ⟨_, rfl⟩
  | missedBeacon => simp only [exec, execMissedBeacon]; split <;> exact ⟨_, rfl⟩
  | neighbourClear => simp only [exec, execNeighbourClear]; split <;> exact ⟨_, rfl⟩
  | neighbourSettings => simp only [exec, execNeighbourSettings]; split <;> exact ⟨_, rfl⟩
  | _ => exact ⟨_, rfl⟩

end Sys2Proof.Machine
end

