-- ==== Sys2Proof/Laws/State.lean ====
section
/-! SUPPORT. What each plain update of the state leaves as it was: one lemma for each block and update. -/

namespace Sys2Proof.Machine

variable (s : State)
/-! `State.setFlag` -/
@[simp] theorem State.setFlag_air (f : Flag) : (s.setFlag f).air = s.air := rfl
@[simp] theorem State.setFlag_tracker (f : Flag) : (s.setFlag f).tracker = s.tracker := rfl
@[simp] theorem State.setFlag_intake (f : Flag) : (s.setFlag f).intake = s.intake := rfl
@[simp] theorem State.setFlag_map (f : Flag) : (s.setFlag f).map = s.map := rfl
@[simp] theorem State.setFlag_schedule (f : Flag) : (s.setFlag f).schedule = s.schedule := rfl
@[simp] theorem State.setFlag_admission (f : Flag) : (s.setFlag f).admission = s.admission := rfl
@[simp] theorem State.setFlag_rewriter (f : Flag) : (s.setFlag f).rewriter = s.rewriter := rfl
@[simp] theorem State.setFlag_policy (f : Flag) : (s.setFlag f).policy = s.policy := rfl
@[simp] theorem State.setFlag_bus (f : Flag) : (s.setFlag f).bus = s.bus := rfl
@[simp] theorem State.setFlag_pending (f : Flag) : (s.setFlag f).pending = s.pending := rfl

/-! `State.count` -/
@[simp] theorem State.count_air (c : Counter) : (s.count c).air = s.air := rfl
@[simp] theorem State.count_tracker (c : Counter) : (s.count c).tracker = s.tracker := rfl
@[simp] theorem State.count_intake (c : Counter) : (s.count c).intake = s.intake := rfl
@[simp] theorem State.count_map (c : Counter) : (s.count c).map = s.map := rfl
@[simp] theorem State.count_schedule (c : Counter) : (s.count c).schedule = s.schedule := rfl
@[simp] theorem State.count_admission (c : Counter) : (s.count c).admission = s.admission := rfl
@[simp] theorem State.count_rewriter (c : Counter) : (s.count c).rewriter = s.rewriter := rfl
@[simp] theorem State.count_policy (c : Counter) : (s.count c).policy = s.policy := rfl
@[simp] theorem State.count_bus (c : Counter) : (s.count c).bus = s.bus := rfl
@[simp] theorem State.count_pending (c : Counter) : (s.count c).pending = s.pending := rfl

/-! `State.clearCounters` -/
@[simp] theorem State.clearCounters_air : (s.clearCounters).air = s.air := rfl
@[simp] theorem State.clearCounters_tracker : (s.clearCounters).tracker = s.tracker := rfl
@[simp] theorem State.clearCounters_intake : (s.clearCounters).intake = s.intake := rfl
@[simp] theorem State.clearCounters_map : (s.clearCounters).map = s.map := rfl
@[simp] theorem State.clearCounters_schedule : (s.clearCounters).schedule = s.schedule := rfl
@[simp] theorem State.clearCounters_admission : (s.clearCounters).admission = s.admission := rfl
@[simp] theorem State.clearCounters_rewriter : (s.clearCounters).rewriter = s.rewriter := rfl
@[simp] theorem State.clearCounters_policy : (s.clearCounters).policy = s.policy := rfl
@[simp] theorem State.clearCounters_bus : (s.clearCounters).bus = s.bus := rfl
@[simp] theorem State.clearCounters_pending : (s.clearCounters).pending = s.pending := rfl

/-! `State.sendMap` -/
@[simp] theorem State.sendMap_air (q : MapRequest) : (s.sendMap q).air = s.air := rfl
@[simp] theorem State.sendMap_tracker (q : MapRequest) : (s.sendMap q).tracker = s.tracker := rfl
@[simp] theorem State.sendMap_intake (q : MapRequest) : (s.sendMap q).intake = s.intake := rfl
@[simp] theorem State.sendMap_schedule (q : MapRequest) : (s.sendMap q).schedule = s.schedule := rfl
@[simp] theorem State.sendMap_admission (q : MapRequest) : (s.sendMap q).admission = s.admission := rfl
@[simp] theorem State.sendMap_rewriter (q : MapRequest) : (s.sendMap q).rewriter = s.rewriter := rfl
@[simp] theorem State.sendMap_policy (q : MapRequest) : (s.sendMap q).policy = s.policy := rfl
@[simp] theorem State.sendMap_report (q : MapRequest) : (s.sendMap q).report = s.report := rfl
@[simp] theorem State.sendMap_bus (q : MapRequest) : (s.sendMap q).bus = s.bus := rfl
@[simp] theorem State.sendMap_pending (q : MapRequest) : (s.sendMap q).pending = s.pending := rfl

/-! `State.sendSchedule` -/
@[simp] theorem State.sendSchedule_air (q : ScheduleRequest) : (s.sendSchedule q).air = s.air := rfl
@[simp] theorem State.sendSchedule_tracker (q : ScheduleRequest) : (s.sendSchedule q).tracker = s.tracker := rfl
@[simp] theorem State.sendSchedule_intake (q : ScheduleRequest) : (s.sendSchedule q).intake = s.intake := rfl
@[simp] theorem State.sendSchedule_map (q : ScheduleRequest) : (s.sendSchedule q).map = s.map := rfl
@[simp] theorem State.sendSchedule_admission (q : ScheduleRequest) : (s.sendSchedule q).admission = s.admission := rfl
@[simp] theorem State.sendSchedule_rewriter (q : ScheduleRequest) : (s.sendSchedule q).rewriter = s.rewriter := rfl
@[simp] theorem State.sendSchedule_policy (q : ScheduleRequest) : (s.sendSchedule q).policy = s.policy := rfl
@[simp] theorem State.sendSchedule_report (q : ScheduleRequest) : (s.sendSchedule q).report = s.report := rfl
@[simp] theorem State.sendSchedule_bus (q : ScheduleRequest) : (s.sendSchedule q).bus = s.bus := rfl
@[simp] theorem State.sendSchedule_pending (q : ScheduleRequest) : (s.sendSchedule q).pending = s.pending := rfl

/-! `State.voidForMap` -/
@[simp] theorem State.voidForMap_air : (s.voidForMap).air = s.air := rfl
@[simp] theorem State.voidForMap_tracker : (s.voidForMap).tracker = s.tracker := rfl
@[simp] theorem State.voidForMap_map : (s.voidForMap).map = s.map := rfl
@[simp] theorem State.voidForMap_schedule : (s.voidForMap).schedule = s.schedule := rfl
@[simp] theorem State.voidForMap_admission : (s.voidForMap).admission = s.admission := rfl
@[simp] theorem State.voidForMap_rewriter : (s.voidForMap).rewriter = s.rewriter := rfl
@[simp] theorem State.voidForMap_policy : (s.voidForMap).policy = s.policy := rfl
@[simp] theorem State.voidForMap_report : (s.voidForMap).report = s.report := rfl
@[simp] theorem State.voidForMap_bus : (s.voidForMap).bus = s.bus := rfl
@[simp] theorem State.voidForMap_pending : (s.voidForMap).pending = s.pending := rfl

/-! `State.voidForNeighbour` -/
@[simp] theorem State.voidForNeighbour_air : (s.voidForNeighbour).air = s.air := rfl
@[simp] theorem State.voidForNeighbour_tracker : (s.voidForNeighbour).tracker = s.tracker := rfl
@[simp] theorem State.voidForNeighbour_map : (s.voidForNeighbour).map = s.map := rfl
@[simp] theorem State.voidForNeighbour_schedule : (s.voidForNeighbour).schedule = s.schedule := rfl
@[simp] theorem State.voidForNeighbour_admission : (s.voidForNeighbour).admission = s.admission := rfl
@[simp] theorem State.voidForNeighbour_rewriter : (s.voidForNeighbour).rewriter = s.rewriter := rfl
@[simp] theorem State.voidForNeighbour_policy : (s.voidForNeighbour).policy = s.policy := rfl
@[simp] theorem State.voidForNeighbour_report : (s.voidForNeighbour).report = s.report := rfl
@[simp] theorem State.voidForNeighbour_bus : (s.voidForNeighbour).bus = s.bus := rfl
@[simp] theorem State.voidForNeighbour_pending : (s.voidForNeighbour).pending = s.pending := rfl

/-! `State.sendMapClear` -/
@[simp] theorem State.sendMapClear_air : (s.sendMapClear).air = s.air := rfl
@[simp] theorem State.sendMapClear_tracker : (s.sendMapClear).tracker = s.tracker := rfl
@[simp] theorem State.sendMapClear_schedule : (s.sendMapClear).schedule = s.schedule := rfl
@[simp] theorem State.sendMapClear_admission : (s.sendMapClear).admission = s.admission := rfl
@[simp] theorem State.sendMapClear_rewriter : (s.sendMapClear).rewriter = s.rewriter := rfl
@[simp] theorem State.sendMapClear_policy : (s.sendMapClear).policy = s.policy := rfl
@[simp] theorem State.sendMapClear_report : (s.sendMapClear).report = s.report := rfl
@[simp] theorem State.sendMapClear_bus : (s.sendMapClear).bus = s.bus := rfl
@[simp] theorem State.sendMapClear_pending : (s.sendMapClear).pending = s.pending := rfl

/-! `State.sendNeighbourClear` -/
@[simp] theorem State.sendNeighbourClear_air : (s.sendNeighbourClear).air = s.air := rfl
@[simp] theorem State.sendNeighbourClear_tracker : (s.sendNeighbourClear).tracker = s.tracker := rfl
@[simp] theorem State.sendNeighbourClear_map : (s.sendNeighbourClear).map = s.map := rfl
@[simp] theorem State.sendNeighbourClear_admission : (s.sendNeighbourClear).admission = s.admission := rfl
@[simp] theorem State.sendNeighbourClear_rewriter : (s.sendNeighbourClear).rewriter = s.rewriter := rfl
@[simp] theorem State.sendNeighbourClear_policy : (s.sendNeighbourClear).policy = s.policy := rfl
@[simp] theorem State.sendNeighbourClear_report : (s.sendNeighbourClear).report = s.report := rfl
@[simp] theorem State.sendNeighbourClear_bus : (s.sendNeighbourClear).bus = s.bus := rfl
@[simp] theorem State.sendNeighbourClear_pending : (s.sendNeighbourClear).pending = s.pending := rfl

/-! `State.referenceEvents` -/
@[simp] theorem State.referenceEvents_air : (s.referenceEvents).air = s.air := rfl
@[simp] theorem State.referenceEvents_tracker : (s.referenceEvents).tracker = s.tracker := rfl
@[simp] theorem State.referenceEvents_intake : (s.referenceEvents).intake = s.intake := rfl
@[simp] theorem State.referenceEvents_schedule : (s.referenceEvents).schedule = s.schedule := rfl
@[simp] theorem State.referenceEvents_admission : (s.referenceEvents).admission = s.admission := rfl
@[simp] theorem State.referenceEvents_rewriter : (s.referenceEvents).rewriter = s.rewriter := rfl
@[simp] theorem State.referenceEvents_policy : (s.referenceEvents).policy = s.policy := rfl
@[simp] theorem State.referenceEvents_report : (s.referenceEvents).report = s.report := rfl
@[simp] theorem State.referenceEvents_bus : (s.referenceEvents).bus = s.bus := rfl
@[simp] theorem State.referenceEvents_pending : (s.referenceEvents).pending = s.pending := rfl

/-! `State.emptyPending` -/
@[simp] theorem State.emptyPending_air : (s.emptyPending).air = s.air := rfl
@[simp] theorem State.emptyPending_tracker : (s.emptyPending).tracker = s.tracker := rfl
@[simp] theorem State.emptyPending_intake : (s.emptyPending).intake = s.intake := rfl
@[simp] theorem State.emptyPending_map : (s.emptyPending).map = s.map := rfl
@[simp] theorem State.emptyPending_schedule : (s.emptyPending).schedule = s.schedule := rfl
@[simp] theorem State.emptyPending_admission : (s.emptyPending).admission = s.admission := rfl
@[simp] theorem State.emptyPending_policy : (s.emptyPending).policy = s.policy := rfl
@[simp] theorem State.emptyPending_report : (s.emptyPending).report = s.report := rfl
@[simp] theorem State.emptyPending_bus : (s.emptyPending).bus = s.bus := rfl
@[simp] theorem State.emptyPending_pending : (s.emptyPending).pending = s.pending := rfl

/-! `State.emptyFifo` -/
@[simp] theorem State.emptyFifo_air : (s.emptyFifo).air = s.air := rfl
@[simp] theorem State.emptyFifo_tracker : (s.emptyFifo).tracker = s.tracker := rfl
@[simp] theorem State.emptyFifo_admission : (s.emptyFifo).admission = s.admission := rfl
@[simp] theorem State.emptyFifo_rewriter : (s.emptyFifo).rewriter = s.rewriter := rfl
@[simp] theorem State.emptyFifo_policy : (s.emptyFifo).policy = s.policy := rfl
@[simp] theorem State.emptyFifo_report : (s.emptyFifo).report = s.report := rfl
@[simp] theorem State.emptyFifo_bus : (s.emptyFifo).bus = s.bus := rfl
@[simp] theorem State.emptyFifo_pending : (s.emptyFifo).pending = s.pending := rfl

/-! `State.driveLines` -/
@[simp] theorem State.driveLines_air : (s.driveLines).air = s.air := rfl
@[simp] theorem State.driveLines_tracker : (s.driveLines).tracker = s.tracker := rfl
@[simp] theorem State.driveLines_intake : (s.driveLines).intake = s.intake := rfl
@[simp] theorem State.driveLines_map : (s.driveLines).map = s.map := rfl
@[simp] theorem State.driveLines_schedule : (s.driveLines).schedule = s.schedule := rfl
@[simp] theorem State.driveLines_admission : (s.driveLines).admission = s.admission := rfl
@[simp] theorem State.driveLines_rewriter : (s.driveLines).rewriter = s.rewriter := rfl
@[simp] theorem State.driveLines_policy : (s.driveLines).policy = s.policy := rfl
@[simp] theorem State.driveLines_bus : (s.driveLines).bus = s.bus := rfl
@[simp] theorem State.driveLines_pending : (s.driveLines).pending = s.pending := rfl

/-! `State.popMap` -/
@[simp] theorem State.popMap_air : (s.popMap).air = s.air := rfl
@[simp] theorem State.popMap_tracker : (s.popMap).tracker = s.tracker := rfl
@[simp] theorem State.popMap_intake : (s.popMap).intake = s.intake := rfl
@[simp] theorem State.popMap_schedule : (s.popMap).schedule = s.schedule := rfl
@[simp] theorem State.popMap_admission : (s.popMap).admission = s.admission := rfl
@[simp] theorem State.popMap_rewriter : (s.popMap).rewriter = s.rewriter := rfl
@[simp] theorem State.popMap_policy : (s.popMap).policy = s.policy := rfl
@[simp] theorem State.popMap_report : (s.popMap).report = s.report := rfl
@[simp] theorem State.popMap_bus : (s.popMap).bus = s.bus := rfl
@[simp] theorem State.popMap_pending : (s.popMap).pending = s.pending := rfl

/-! `State.popSchedule` -/
@[simp] theorem State.popSchedule_air : (s.popSchedule).air = s.air := rfl
@[simp] theorem State.popSchedule_tracker : (s.popSchedule).tracker = s.tracker := rfl
@[simp] theorem State.popSchedule_intake : (s.popSchedule).intake = s.intake := rfl
@[simp] theorem State.popSchedule_map : (s.popSchedule).map = s.map := rfl
@[simp] theorem State.popSchedule_admission : (s.popSchedule).admission = s.admission := rfl
@[simp] theorem State.popSchedule_rewriter : (s.popSchedule).rewriter = s.rewriter := rfl
@[simp] theorem State.popSchedule_policy : (s.popSchedule).policy = s.policy := rfl
@[simp] theorem State.popSchedule_report : (s.popSchedule).report = s.report := rfl
@[simp] theorem State.popSchedule_bus : (s.popSchedule).bus = s.bus := rfl
@[simp] theorem State.popSchedule_pending : (s.popSchedule).pending = s.pending := rfl

/-! `State.sendMiss` -/
@[simp] theorem State.sendMiss_air (i : Fin 8) (e : Neighbour) : (s.sendMiss i e).air = s.air := rfl
@[simp] theorem State.sendMiss_tracker (i : Fin 8) (e : Neighbour) : (s.sendMiss i e).tracker = s.tracker := rfl
@[simp] theorem State.sendMiss_intake (i : Fin 8) (e : Neighbour) : (s.sendMiss i e).intake = s.intake := rfl
@[simp] theorem State.sendMiss_map (i : Fin 8) (e : Neighbour) : (s.sendMiss i e).map = s.map := rfl
@[simp] theorem State.sendMiss_admission (i : Fin 8) (e : Neighbour) : (s.sendMiss i e).admission = s.admission := rfl
@[simp] theorem State.sendMiss_rewriter (i : Fin 8) (e : Neighbour) : (s.sendMiss i e).rewriter = s.rewriter := rfl
@[simp] theorem State.sendMiss_policy (i : Fin 8) (e : Neighbour) : (s.sendMiss i e).policy = s.policy := rfl
@[simp] theorem State.sendMiss_report (i : Fin 8) (e : Neighbour) : (s.sendMiss i e).report = s.report := rfl
@[simp] theorem State.sendMiss_bus (i : Fin 8) (e : Neighbour) : (s.sendMiss i e).bus = s.bus := rfl
@[simp] theorem State.sendMiss_pending (i : Fin 8) (e : Neighbour) : (s.sendMiss i e).pending = s.pending := rfl
@[simp] theorem State.sendMiss_slots (i : Fin 8) (e : Neighbour) :
    (s.sendMiss i e).schedule.slots = s.schedule.slots.set i (some { e with taken := true }) := rfl
@[simp] theorem State.sendMiss_settings (i : Fin 8) (e : Neighbour) :
    (s.sendMiss i e).schedule.settings = s.schedule.settings := rfl
@[simp] theorem State.sendMiss_requests (i : Fin 8) (e : Neighbour) :
    (s.sendMiss i e).schedule.requests = s.schedule.requests ++ [.expiry i e.address] := rfl

/-! `State.setSlot` -/
@[simp] theorem State.setSlot_air (i : Fin 8) (e : Option Neighbour) : (s.setSlot i e).air = s.air := rfl
@[simp] theorem State.setSlot_tracker (i : Fin 8) (e : Option Neighbour) : (s.setSlot i e).tracker = s.tracker := rfl
@[simp] theorem State.setSlot_intake (i : Fin 8) (e : Option Neighbour) : (s.setSlot i e).intake = s.intake := rfl
@[simp] theorem State.setSlot_map (i : Fin 8) (e : Option Neighbour) : (s.setSlot i e).map = s.map := rfl
@[simp] theorem State.setSlot_admission (i : Fin 8) (e : Option Neighbour) : (s.setSlot i e).admission = s.admission := rfl
@[simp] theorem State.setSlot_rewriter (i : Fin 8) (e : Option Neighbour) : (s.setSlot i e).rewriter = s.rewriter := rfl
@[simp] theorem State.setSlot_policy (i : Fin 8) (e : Option Neighbour) : (s.setSlot i e).policy = s.policy := rfl
@[simp] theorem State.setSlot_report (i : Fin 8) (e : Option Neighbour) : (s.setSlot i e).report = s.report := rfl
@[simp] theorem State.setSlot_bus (i : Fin 8) (e : Option Neighbour) : (s.setSlot i e).bus = s.bus := rfl
@[simp] theorem State.setSlot_pending (i : Fin 8) (e : Option Neighbour) : (s.setSlot i e).pending = s.pending := rfl

/-! `State.deliver` -/
@[simp] theorem State.deliver_air (ws : List Word) : (s.deliver ws).air = s.air := rfl
@[simp] theorem State.deliver_tracker (ws : List Word) : (s.deliver ws).tracker = s.tracker := rfl
@[simp] theorem State.deliver_intake (ws : List Word) : (s.deliver ws).intake = s.intake := rfl
@[simp] theorem State.deliver_map (ws : List Word) : (s.deliver ws).map = s.map := rfl
@[simp] theorem State.deliver_schedule (ws : List Word) : (s.deliver ws).schedule = s.schedule := rfl
@[simp] theorem State.deliver_admission (ws : List Word) : (s.deliver ws).admission = s.admission := rfl
@[simp] theorem State.deliver_rewriter (ws : List Word) : (s.deliver ws).rewriter = s.rewriter := rfl
@[simp] theorem State.deliver_policy (ws : List Word) : (s.deliver ws).policy = s.policy := rfl
@[simp] theorem State.deliver_report (ws : List Word) : (s.deliver ws).report = s.report := rfl
@[simp] theorem State.deliver_pending (ws : List Word) : (s.deliver ws).pending = s.pending := rfl

/-! `State.forward` -/
@[simp] theorem State.forward_air (f : Forwarded) : (s.forward f).air = s.air := rfl
@[simp] theorem State.forward_tracker (f : Forwarded) : (s.forward f).tracker = s.tracker := rfl
@[simp] theorem State.forward_intake (f : Forwarded) : (s.forward f).intake = s.intake := rfl
@[simp] theorem State.forward_map (f : Forwarded) : (s.forward f).map = s.map := rfl
@[simp] theorem State.forward_schedule (f : Forwarded) : (s.forward f).schedule = s.schedule := rfl
@[simp] theorem State.forward_admission (f : Forwarded) : (s.forward f).admission = s.admission := rfl
@[simp] theorem State.forward_rewriter (f : Forwarded) : (s.forward f).rewriter = s.rewriter := rfl
@[simp] theorem State.forward_policy (f : Forwarded) : (s.forward f).policy = s.policy := rfl
@[simp] theorem State.forward_report (f : Forwarded) : (s.forward f).report = s.report := rfl
@[simp] theorem State.forward_pending (f : Forwarded) : (s.forward f).pending = s.pending := rfl

/-! `State.send` -/
@[simp] theorem State.send_air (ws : List WriteWord) : (s.send ws).air = s.air := rfl
@[simp] theorem State.send_tracker (ws : List WriteWord) : (s.send ws).tracker = s.tracker := rfl
@[simp] theorem State.send_intake (ws : List WriteWord) : (s.send ws).intake = s.intake := rfl
@[simp] theorem State.send_map (ws : List WriteWord) : (s.send ws).map = s.map := rfl
@[simp] theorem State.send_schedule (ws : List WriteWord) : (s.send ws).schedule = s.schedule := rfl
@[simp] theorem State.send_admission (ws : List WriteWord) : (s.send ws).admission = s.admission := rfl
@[simp] theorem State.send_rewriter (ws : List WriteWord) : (s.send ws).rewriter = s.rewriter := rfl
@[simp] theorem State.send_policy (ws : List WriteWord) : (s.send ws).policy = s.policy := rfl
@[simp] theorem State.send_report (ws : List WriteWord) : (s.send ws).report = s.report := rfl
@[simp] theorem State.send_pending (ws : List WriteWord) : (s.send ws).pending = s.pending := rfl

/-! `State.sendPlain` -/
@[simp] theorem State.sendPlain_air {mark : Type} (k : List (Option mark × WriteWord) → Service)
    (l : List (Option mark × WriteWord)) : (s.sendPlain k l).air = s.air := rfl
@[simp] theorem State.sendPlain_tracker {mark : Type} (k : List (Option mark × WriteWord) → Service)
    (l : List (Option mark × WriteWord)) : (s.sendPlain k l).tracker = s.tracker := rfl
@[simp] theorem State.sendPlain_intake {mark : Type} (k : List (Option mark × WriteWord) → Service)
    (l : List (Option mark × WriteWord)) : (s.sendPlain k l).intake = s.intake := rfl
@[simp] theorem State.sendPlain_map {mark : Type} (k : List (Option mark × WriteWord) → Service)
    (l : List (Option mark × WriteWord)) : (s.sendPlain k l).map = s.map := rfl
@[simp] theorem State.sendPlain_schedule {mark : Type} (k : List (Option mark × WriteWord) → Service)
    (l : List (Option mark × WriteWord)) : (s.sendPlain k l).schedule = s.schedule := rfl
@[simp] theorem State.sendPlain_admission {mark : Type} (k : List (Option mark × WriteWord) → Service)
    (l : List (Option mark × WriteWord)) : (s.sendPlain k l).admission = s.admission := rfl
@[simp] theorem State.sendPlain_rewriter {mark : Type} (k : List (Option mark × WriteWord) → Service)
    (l : List (Option mark × WriteWord)) : (s.sendPlain k l).rewriter = s.rewriter := rfl
@[simp] theorem State.sendPlain_policy {mark : Type} (k : List (Option mark × WriteWord) → Service)
    (l : List (Option mark × WriteWord)) : (s.sendPlain k l).policy = s.policy := rfl
@[simp] theorem State.sendPlain_report {mark : Type} (k : List (Option mark × WriteWord) → Service)
    (l : List (Option mark × WriteWord)) : (s.sendPlain k l).report = s.report := rfl
@[simp] theorem State.sendPlain_pending {mark : Type} (k : List (Option mark × WriteWord) → Service)
    (l : List (Option mark × WriteWord)) : (s.sendPlain k l).pending = s.pending := rfl

/-! `State.removeEntry` -/
@[simp] theorem State.removeEntry_air (i : Nat) : (s.removeEntry i).air = s.air := rfl
@[simp] theorem State.removeEntry_tracker (i : Nat) : (s.removeEntry i).tracker = s.tracker := rfl
@[simp] theorem State.removeEntry_intake (i : Nat) : (s.removeEntry i).intake = s.intake := rfl
@[simp] theorem State.removeEntry_map (i : Nat) : (s.removeEntry i).map = s.map := rfl
@[simp] theorem State.removeEntry_schedule (i : Nat) : (s.removeEntry i).schedule = s.schedule := rfl
@[simp] theorem State.removeEntry_admission (i : Nat) : (s.removeEntry i).admission = s.admission := rfl
@[simp] theorem State.removeEntry_policy (i : Nat) : (s.removeEntry i).policy = s.policy := rfl
@[simp] theorem State.removeEntry_report (i : Nat) : (s.removeEntry i).report = s.report := rfl
@[simp] theorem State.removeEntry_bus (i : Nat) : (s.removeEntry i).bus = s.bus := rfl
@[simp] theorem State.removeEntry_pending (i : Nat) : (s.removeEntry i).pending = s.pending := rfl

/-! `State.beginAdmission` -/
@[simp] theorem State.beginAdmission_air (i : Nat) (w : Words8) (t : Time) : (s.beginAdmission i w t).air = s.air := rfl
@[simp] theorem State.beginAdmission_tracker (i : Nat) (w : Words8) (t : Time) : (s.beginAdmission i w t).tracker = s.tracker := rfl
@[simp] theorem State.beginAdmission_intake (i : Nat) (w : Words8) (t : Time) : (s.beginAdmission i w t).intake = s.intake := rfl
@[simp] theorem State.beginAdmission_map (i : Nat) (w : Words8) (t : Time) : (s.beginAdmission i w t).map = s.map := rfl
@[simp] theorem State.beginAdmission_schedule (i : Nat) (w : Words8) (t : Time) : (s.beginAdmission i w t).schedule = s.schedule := rfl
@[simp] theorem State.beginAdmission_rewriter (i : Nat) (w : Words8) (t : Time) : (s.beginAdmission i w t).rewriter = s.rewriter := rfl
@[simp] theorem State.beginAdmission_policy (i : Nat) (w : Words8) (t : Time) : (s.beginAdmission i w t).policy = s.policy := rfl
@[simp] theorem State.beginAdmission_report (i : Nat) (w : Words8) (t : Time) : (s.beginAdmission i w t).report = s.report := rfl
@[simp] theorem State.beginAdmission_bus (i : Nat) (w : Words8) (t : Time) : (s.beginAdmission i w t).bus = s.bus := rfl
@[simp] theorem State.beginAdmission_pending (i : Nat) (w : Words8) (t : Time) : (s.beginAdmission i w t).pending = s.pending := rfl

/-! `State.handToMap` -/
@[simp] theorem State.handToMap_air (f : Fold) (e : Evidence) : (s.handToMap f e).air = s.air := rfl
@[simp] theorem State.handToMap_tracker (f : Fold) (e : Evidence) : (s.handToMap f e).tracker = s.tracker := rfl
@[simp] theorem State.handToMap_schedule (f : Fold) (e : Evidence) : (s.handToMap f e).schedule = s.schedule := rfl
@[simp] theorem State.handToMap_admission (f : Fold) (e : Evidence) : (s.handToMap f e).admission = s.admission := rfl
@[simp] theorem State.handToMap_rewriter (f : Fold) (e : Evidence) : (s.handToMap f e).rewriter = s.rewriter := rfl
@[simp] theorem State.handToMap_policy (f : Fold) (e : Evidence) : (s.handToMap f e).policy = s.policy := rfl
@[simp] theorem State.handToMap_report (f : Fold) (e : Evidence) : (s.handToMap f e).report = s.report := rfl
@[simp] theorem State.handToMap_bus (f : Fold) (e : Evidence) : (s.handToMap f e).bus = s.bus := rfl
@[simp] theorem State.handToMap_pending (f : Fold) (e : Evidence) : (s.handToMap f e).pending = s.pending := rfl

/-! `State.handToSchedule` -/
@[simp] theorem State.handToSchedule_air (f : Fold) (u : BeaconUpdate) : (s.handToSchedule f u).air = s.air := rfl
@[simp] theorem State.handToSchedule_tracker (f : Fold) (u : BeaconUpdate) : (s.handToSchedule f u).tracker = s.tracker := rfl
@[simp] theorem State.handToSchedule_map (f : Fold) (u : BeaconUpdate) : (s.handToSchedule f u).map = s.map := rfl
@[simp] theorem State.handToSchedule_admission (f : Fold) (u : BeaconUpdate) : (s.handToSchedule f u).admission = s.admission := rfl
@[simp] theorem State.handToSchedule_rewriter (f : Fold) (u : BeaconUpdate) : (s.handToSchedule f u).rewriter = s.rewriter := rfl
@[simp] theorem State.handToSchedule_policy (f : Fold) (u : BeaconUpdate) : (s.handToSchedule f u).policy = s.policy := rfl
@[simp] theorem State.handToSchedule_report (f : Fold) (u : BeaconUpdate) : (s.handToSchedule f u).report = s.report := rfl
@[simp] theorem State.handToSchedule_bus (f : Fold) (u : BeaconUpdate) : (s.handToSchedule f u).bus = s.bus := rfl
@[simp] theorem State.handToSchedule_pending (f : Fold) (u : BeaconUpdate) : (s.handToSchedule f u).pending = s.pending := rfl

/-! `State.accept` -/
@[simp] theorem State.accept_air (w : Words8) : (s.accept w).air = s.air := rfl
@[simp] theorem State.accept_tracker (w : Words8) : (s.accept w).tracker = s.tracker := rfl
@[simp] theorem State.accept_intake (w : Words8) : (s.accept w).intake = s.intake := rfl
@[simp] theorem State.accept_map (w : Words8) : (s.accept w).map = s.map := rfl
@[simp] theorem State.accept_schedule (w : Words8) : (s.accept w).schedule = s.schedule := rfl
@[simp] theorem State.accept_admission (w : Words8) : (s.accept w).admission = s.admission := rfl
@[simp] theorem State.accept_rewriter (w : Words8) : (s.accept w).rewriter = s.rewriter := rfl
@[simp] theorem State.accept_bus (w : Words8) : (s.accept w).bus = s.bus := rfl
@[simp] theorem State.accept_pending (w : Words8) : (s.accept w).pending = s.pending := rfl

/-! `State.refuse` -/
@[simp] theorem State.refuse_air (w : Words8) (r : RejectReason) : (s.refuse w r).air = s.air := rfl
@[simp] theorem State.refuse_tracker (w : Words8) (r : RejectReason) : (s.refuse w r).tracker = s.tracker := rfl
@[simp] theorem State.refuse_intake (w : Words8) (r : RejectReason) : (s.refuse w r).intake = s.intake := rfl
@[simp] theorem State.refuse_map (w : Words8) (r : RejectReason) : (s.refuse w r).map = s.map := rfl
@[simp] theorem State.refuse_schedule (w : Words8) (r : RejectReason) : (s.refuse w r).schedule = s.schedule := rfl
@[simp] theorem State.refuse_admission (w : Words8) (r : RejectReason) : (s.refuse w r).admission = s.admission := rfl
@[simp] theorem State.refuse_rewriter (w : Words8) (r : RejectReason) : (s.refuse w r).rewriter = s.rewriter := rfl
@[simp] theorem State.refuse_bus (w : Words8) (r : RejectReason) : (s.refuse w r).bus = s.bus := rfl
@[simp] theorem State.refuse_pending (w : Words8) (r : RejectReason) : (s.refuse w r).pending = s.pending := rfl

/-! `State.receive` -/
@[simp] theorem State.receive_air (k : Nat) : (s.receive k).air = s.air := rfl
@[simp] theorem State.receive_tracker (k : Nat) : (s.receive k).tracker = s.tracker := rfl
@[simp] theorem State.receive_intake (k : Nat) : (s.receive k).intake = s.intake := rfl
@[simp] theorem State.receive_map (k : Nat) : (s.receive k).map = s.map := rfl
@[simp] theorem State.receive_schedule (k : Nat) : (s.receive k).schedule = s.schedule := rfl
@[simp] theorem State.receive_admission (k : Nat) : (s.receive k).admission = s.admission := rfl
@[simp] theorem State.receive_rewriter (k : Nat) : (s.receive k).rewriter = s.rewriter := rfl
@[simp] theorem State.receive_report (k : Nat) : (s.receive k).report = s.report := rfl
@[simp] theorem State.receive_bus (k : Nat) : (s.receive k).bus = s.bus := rfl
@[simp] theorem State.receive_pending (k : Nat) : (s.receive k).pending = s.pending := rfl

/-! `State.restarted` -/
@[simp] theorem State.restarted_air : (s.restarted).air = s.air := rfl
@[simp] theorem State.restarted_pending : (s.restarted).pending = s.pending := rfl

/-! `State.advance` -/
@[simp] theorem State.advance_tracker : (s.advance).tracker = s.tracker := rfl
@[simp] theorem State.advance_intake : (s.advance).intake = s.intake := rfl
@[simp] theorem State.advance_map : (s.advance).map = s.map := rfl
@[simp] theorem State.advance_schedule : (s.advance).schedule = s.schedule := rfl
@[simp] theorem State.advance_admission : (s.advance).admission = s.admission := rfl
@[simp] theorem State.advance_rewriter : (s.advance).rewriter = s.rewriter := rfl
@[simp] theorem State.advance_policy : (s.advance).policy = s.policy := rfl
@[simp] theorem State.advance_report : (s.advance).report = s.report := rfl
@[simp] theorem State.advance_pending : (s.advance).pending = s.pending := rfl

/-! `State.expireKeepalive` -/
@[simp] theorem State.expireKeepalive_air : (s.expireKeepalive).air = s.air := rfl
@[simp] theorem State.expireKeepalive_tracker : (s.expireKeepalive).tracker = s.tracker := rfl
@[simp] theorem State.expireKeepalive_intake : (s.expireKeepalive).intake = s.intake := rfl
@[simp] theorem State.expireKeepalive_map : (s.expireKeepalive).map = s.map := rfl
@[simp] theorem State.expireKeepalive_schedule : (s.expireKeepalive).schedule = s.schedule := rfl
@[simp] theorem State.expireKeepalive_admission : (s.expireKeepalive).admission = s.admission := rfl
@[simp] theorem State.expireKeepalive_rewriter : (s.expireKeepalive).rewriter = s.rewriter := rfl
@[simp] theorem State.expireKeepalive_bus : (s.expireKeepalive).bus = s.bus := rfl
@[simp] theorem State.expireKeepalive_pending : (s.expireKeepalive).pending = s.pending := rfl

/-! `State.serveClear` -/
@[simp] theorem State.serveClear_air : (s.serveClear).air = s.air := rfl
@[simp] theorem State.serveClear_tracker : (s.serveClear).tracker = s.tracker := rfl
@[simp] theorem State.serveClear_intake : (s.serveClear).intake = s.intake := rfl
@[simp] theorem State.serveClear_schedule : (s.serveClear).schedule = s.schedule := rfl
@[simp] theorem State.serveClear_admission : (s.serveClear).admission = s.admission := rfl
@[simp] theorem State.serveClear_rewriter : (s.serveClear).rewriter = s.rewriter := rfl
@[simp] theorem State.serveClear_policy : (s.serveClear).policy = s.policy := rfl
@[simp] theorem State.serveClear_report : (s.serveClear).report = s.report := rfl
@[simp] theorem State.serveClear_bus : (s.serveClear).bus = s.bus := rfl
@[simp] theorem State.serveClear_pending : (s.serveClear).pending = s.pending := rfl

/-! `State.serveSnapshot` -/
@[simp] theorem State.serveSnapshot_air : (s.serveSnapshot).air = s.air := rfl
@[simp] theorem State.serveSnapshot_tracker : (s.serveSnapshot).tracker = s.tracker := rfl
@[simp] theorem State.serveSnapshot_intake : (s.serveSnapshot).intake = s.intake := rfl
@[simp] theorem State.serveSnapshot_schedule : (s.serveSnapshot).schedule = s.schedule := rfl
@[simp] theorem State.serveSnapshot_admission : (s.serveSnapshot).admission = s.admission := rfl
@[simp] theorem State.serveSnapshot_rewriter : (s.serveSnapshot).rewriter = s.rewriter := rfl
@[simp] theorem State.serveSnapshot_policy : (s.serveSnapshot).policy = s.policy := rfl
@[simp] theorem State.serveSnapshot_report : (s.serveSnapshot).report = s.report := rfl
@[simp] theorem State.serveSnapshot_bus : (s.serveSnapshot).bus = s.bus := rfl
@[simp] theorem State.serveSnapshot_pending : (s.serveSnapshot).pending = s.pending := rfl

/-! `State.ageingPass` -/
@[simp] theorem State.ageingPass_air : (s.ageingPass).air = s.air := rfl
@[simp] theorem State.ageingPass_tracker : (s.ageingPass).tracker = s.tracker := rfl
@[simp] theorem State.ageingPass_intake : (s.ageingPass).intake = s.intake := rfl
@[simp] theorem State.ageingPass_schedule : (s.ageingPass).schedule = s.schedule := rfl
@[simp] theorem State.ageingPass_admission : (s.ageingPass).admission = s.admission := rfl
@[simp] theorem State.ageingPass_rewriter : (s.ageingPass).rewriter = s.rewriter := rfl
@[simp] theorem State.ageingPass_policy : (s.ageingPass).policy = s.policy := rfl
@[simp] theorem State.ageingPass_report : (s.ageingPass).report = s.report := rfl
@[simp] theorem State.ageingPass_bus : (s.ageingPass).bus = s.bus := rfl
@[simp] theorem State.ageingPass_pending : (s.ageingPass).pending = s.pending := rfl

/-! `State.serveNeighbourClear` -/
@[simp] theorem State.serveNeighbourClear_air : (s.serveNeighbourClear).air = s.air := rfl
@[simp] theorem State.serveNeighbourClear_tracker : (s.serveNeighbourClear).tracker = s.tracker := rfl
@[simp] theorem State.serveNeighbourClear_intake : (s.serveNeighbourClear).intake = s.intake := rfl
@[simp] theorem State.serveNeighbourClear_map : (s.serveNeighbourClear).map = s.map := rfl
@[simp] theorem State.serveNeighbourClear_admission : (s.serveNeighbourClear).admission = s.admission := rfl
@[simp] theorem State.serveNeighbourClear_rewriter : (s.serveNeighbourClear).rewriter = s.rewriter := rfl
@[simp] theorem State.serveNeighbourClear_policy : (s.serveNeighbourClear).policy = s.policy := rfl
@[simp] theorem State.serveNeighbourClear_report : (s.serveNeighbourClear).report = s.report := rfl
@[simp] theorem State.serveNeighbourClear_bus : (s.serveNeighbourClear).bus = s.bus := rfl
@[simp] theorem State.serveNeighbourClear_pending : (s.serveNeighbourClear).pending = s.pending := rfl

/-! ### What the updates write -/

@[simp] theorem State.setFlag_flags (f : Flag) : (s.setFlag f).report.flags = withFlag s.report.flags f := rfl
@[simp] theorem State.setFlag_enables (f : Flag) : (s.setFlag f).report.enables = s.report.enables := rfl
@[simp] theorem State.setFlag_counters (f : Flag) : (s.setFlag f).report.counters = s.report.counters := rfl
@[simp] theorem State.setFlag_win (f : Flag) : (s.setFlag f).report.win = s.report.win := rfl
@[simp] theorem State.setFlag_counter (f : Flag) (c : Counter) : (s.setFlag f).counter c = s.counter c := rfl
@[simp] theorem State.count_flags (c : Counter) : (s.count c).report.flags = s.report.flags := rfl
@[simp] theorem State.count_enables (c : Counter) : (s.count c).report.enables = s.report.enables := rfl
@[simp] theorem State.count_win (c : Counter) : (s.count c).report.win = s.report.win := rfl
@[simp] theorem State.driveLines_flags : s.driveLines.report.flags = s.report.flags := rfl
@[simp] theorem State.driveLines_enables : s.driveLines.report.enables = s.report.enables := rfl
@[simp] theorem State.driveLines_counters : s.driveLines.report.counters = s.report.counters := rfl
@[simp] theorem State.driveLines_win : s.driveLines.report.win = s.report.win := rfl
@[simp] theorem State.driveLines_counter (c : Counter) : s.driveLines.counter c = s.counter c := rfl
@[simp] theorem State.sendMap_requests (q : MapRequest) : (s.sendMap q).map.requests = s.map.requests ++ [q] := rfl
@[simp] theorem State.sendSchedule_requests (q : ScheduleRequest) :
    (s.sendSchedule q).schedule.requests = s.schedule.requests ++ [q] := rfl
@[simp] theorem State.setSlot_slots (i : Fin 8) (e : Option Neighbour) :
    (s.setSlot i e).schedule.slots = s.schedule.slots.set i e := rfl
@[simp] theorem State.setSlot_settings (i : Fin 8) (e : Option Neighbour) :
    (s.setSlot i e).schedule.settings = s.schedule.settings := rfl
@[simp] theorem State.setSlot_requests (i : Fin 8) (e : Option Neighbour) :
    (s.setSlot i e).schedule.requests = s.schedule.requests := rfl
@[simp] theorem State.send_windows (ws : List WriteWord) : (s.send ws).bus.windows = s.bus.windows := rfl
@[simp] theorem State.send_service (ws : List WriteWord) : (s.send ws).bus.service = s.bus.service := rfl
@[simp] theorem State.send_uPort (ws : List WriteWord) : (s.send ws).bus.uPort = s.bus.uPort := rfl
@[simp] theorem State.sendPlain_windows {mark : Type} (k : List (Option mark × WriteWord) → Service)
    (l : List (Option mark × WriteWord)) : (s.sendPlain k l).bus.windows = s.bus.windows := rfl
@[simp] theorem State.sendPlain_uPort {mark : Type} (k : List (Option mark × WriteWord) → Service)
    (l : List (Option mark × WriteWord)) : (s.sendPlain k l).bus.uPort = s.bus.uPort := rfl
@[simp] theorem State.send_mPort (ws : List WriteWord) :
    (s.send ws).bus.mPort = s.bus.mPort.map fun f => { f with words := f.words ++ ws } := rfl
@[simp] theorem State.sendPlain_mPort {mark : Type} (k : List (Option mark × WriteWord) → Service)
    (l : List (Option mark × WriteWord)) : (s.sendPlain k l).bus.mPort =
      s.bus.mPort.map fun f => { f with words := f.words ++ (l.takeWhile fun p => p.1.isNone).map Prod.snd } := rfl
@[simp] theorem State.sendPlain_service {mark : Type} (k : List (Option mark × WriteWord) → Service)
    (l : List (Option mark × WriteWord)) : (s.sendPlain k l).bus.service =
      if (l.dropWhile fun p => p.1.isNone).isEmpty then none else some (k (l.dropWhile fun p => p.1.isNone)) := rfl
@[simp] theorem State.deliver_uPort (ws : List Word) : (s.deliver ws).bus.uPort = s.bus.uPort ++ ws := rfl
@[simp] theorem State.emptyPending_entries : s.emptyPending.rewriter.entries = [] := rfl

/-- What `sendPlain` does with unmarked words before a marked one, or before the end: they are sent, and the write stays in service
from the marked one on. -/
theorem State.sendPlain_split {mark : Type} (k : List (Option mark × WriteWord) → Service) (plain : List WriteWord)
    (later : List (Option mark × WriteWord)) (h : ∀ x, later.head? = some x → x.1 ≠ none) :
    s.sendPlain k (plain.map (fun x => (none, x)) ++ later) =
      { s.send plain with bus.service := if later = [] then none else some (k later) } := by
  have parts : ∀ l : List WriteWord,
      (l.map (fun x => ((none : Option mark), x)) ++ later).takeWhile (fun p => p.1.isNone) =
          l.map (fun x => (none, x)) ∧
        (l.map (fun x => ((none : Option mark), x)) ++ later).dropWhile (fun p => p.1.isNone) = later := by
    intro l
    induction l with
    | nil =>
      cases later with
      | nil => exact ⟨rfl, rfl⟩
      | cons x more => cases hx : x.1 <;> simp [hx] at h ⊢
    | cons a l ih => simpa using ih
  simp only [State.sendPlain, (parts plain).1, (parts plain).2]
  simp [State.send, Function.comp_def]

/-- The slots of the counters are distinct (R165). -/
theorem Counter.slot_injective : ∀ c d : Counter, c.slot = d.slot → c = d := by
  have inverse : ∀ c : Counter, Counter.ofNat c.slot.val = c := by intro c; cases c <;> rfl
  intro c d h
  rw [← inverse c, ← inverse d, h]

/-- A counter after one is counted (R164). -/
@[simp] theorem State.count_counter (c d : Counter) :
    (s.count c).counter d = if d = c then min 65535 (s.counter c + 1) else s.counter d := by
  unfold State.counter State.count
  by_cases h : d = c
  · subst h; simp [saturated, Config.counterLimit]
  · have : c.slot.val ≠ d.slot.val := fun e => h (Counter.slot_injective d c (Fin.ext e.symm))
    simp [h, this]

/-- Every counter is 0 after a clear of the counters (R164). -/
@[simp] theorem State.clearCounters_counter (c : Counter) : s.clearCounters.counter c = 0 := by
  simp [State.counter, State.clearCounters]

end Sys2Proof.Machine
end

