-- ==== Sys2Proof/Laws/Touches.lean ====
section
/-! SUPPORT. What each operation of the blocks can touch, said once: its result is the state it was given with the blocks
named replaced. Every other block, and the queue of commands, is read off the equation. -/

namespace Sys2Proof.Machine

theorem State.takeSample_touches (s : State) (x : Word) :
    ∃ air' report', s.takeSample x = { s with air := air', report := report' } := by
  unfold State.takeSample
  split
  · exact ⟨_, _, rfl⟩
  · split
    · exact ⟨_, _, rfl⟩
    · split <;> exact ⟨_, _, rfl⟩

theorem State.sampleFor_touches (s : State) (e : Entry) :
    ∃ air' report', s.sampleFor e = { s with air := air', report := report' } := by
  unfold State.sampleFor
  split
  · exact s.takeSample_touches _
  all_goals exact ⟨s.air, s.report, rfl⟩

theorem State.startFold_touches (s : State) :
    ∃ air' intake' report', s.startFold = { s with air := air', intake := intake', report := report' } := by
  unfold State.startFold
  split
  · rename_i e rest _ _
    obtain ⟨_, _, h⟩ := s.sampleFor_touches e
    simp only [h]
    exact ⟨_, _, _, rfl⟩
  · exact ⟨s.air, s.intake, s.report, rfl⟩

theorem State.endFold_touches (s : State) :
    ∃ air' intake' report', s.endFold = { s with air := air', intake := intake', report := report' } := by
  unfold State.endFold
  obtain ⟨_, _, _, h⟩ := State.startFold_touches { s with intake.fifo := s.intake.fifo.tail, intake.fold := none }
  exact ⟨_, _, _, h⟩

theorem State.endFoldIf_touches (s : State) (b : Bool) :
    ∃ air' intake' report', s.endFoldIf b = { s with air := air', intake := intake', report := report' } := by
  unfold State.endFoldIf
  split
  · exact s.endFold_touches
  · exact ⟨s.air, s.intake, s.report, rfl⟩

theorem State.arrive_touches (s : State) (b : EntryBody) :
    ∃ air' intake' report', s.arrive b = { s with air := air', intake := intake', report := report' } := by
  unfold State.arrive
  split
  · exact ⟨s.air, s.intake, _, rfl⟩
  · obtain ⟨_, _, _, h⟩ := State.startFold_touches
      { s with intake.fifo := s.intake.fifo ++ [{ body := b, voidMap := false, voidNeighbour := false }] }
    exact ⟨_, _, _, h⟩

theorem State.relockClear_touches (s : State) :
    ∃ intake' map', s.relockClear = { s with intake := intake', map := map' } := by
  unfold State.relockClear
  split
  · exact ⟨_, _, rfl⟩
  · exact ⟨s.intake, s.map, rfl⟩

theorem State.gainLock_touches (s : State) (t : Time) (p : Nat) :
    ∃ tracker' intake' map' report', s.gainLock t p = { s with tracker := tracker', intake := intake', map := map', report := report' } := by
  unfold State.gainLock
  obtain ⟨_, _, h⟩ := (s.setFlag .lockGained).relockClear_touches
  simp only [h]
  exact ⟨_, _, _, _, rfl⟩

theorem State.referenceInLocking_touches (s : State) (t : Time) (p : Int) :
    ∃ tracker' intake' map' report', s.referenceInLocking t p = { s with tracker := tracker', intake := intake', map := map', report := report' } := by
  unfold State.referenceInLocking
  repeat' split
  all_goals first
    | exact ⟨_, _, _, _, rfl⟩
    | exact State.gainLock_touches _ _ _

theorem State.referenceInLocked_touches (s : State) (t : Time) (p : Int) :
    ∃ tracker' intake' map' report', s.referenceInLocked t p = { s with tracker := tracker', intake := intake', map := map', report := report' } := by
  unfold State.referenceInLocked
  repeat' split
  all_goals exact ⟨_, _, _, _, rfl⟩

theorem State.referenceInCoasting_touches (s : State) (t : Time) (p : Int) :
    ∃ tracker' intake' map' report', s.referenceInCoasting t p = { s with tracker := tracker', intake := intake', map := map', report := report' } := by
  unfold State.referenceInCoasting
  repeat' split
  all_goals exact ⟨_, _, _, _, rfl⟩

theorem State.referenceInSeeking_touches (s : State) (t : Time) (p : Int) :
    ∃ tracker' intake' map' report', s.referenceInSeeking t p = { s with tracker := tracker', intake := intake', map := map', report := report' } := by
  unfold State.referenceInSeeking
  repeat' split
  all_goals exact ⟨_, _, _, _, rfl⟩

theorem State.referenceEdge_touches (s : State) (t : Time) :
    ∃ tracker' intake' map' report', s.referenceEdge t = { s with tracker := tracker', intake := intake', map := map', report := report' } := by
  unfold State.referenceEdge
  split
  · exact ⟨_, _, _, _, rfl⟩
  · exact ⟨_, _, _, _, rfl⟩
  · exact ⟨_, _, _, _, rfl⟩
  · exact State.referenceInSeeking_touches _ _ _
  · exact State.referenceInLocking_touches _ _ _
  · exact State.referenceInLocked_touches _ _ _
  · exact State.referenceInCoasting_touches _ _ _

theorem State.acceptEdge_touches (s : State) (t : Time) :
    ∃ tracker' intake' map' report', s.acceptEdge t = { s with tracker := tracker', intake := intake', map := map', report := report' } := by
  simp only [State.acceptEdge]
  split
  · exact ⟨_, _, _, _, rfl⟩
  · obtain ⟨_, _, _, _, h⟩ := State.referenceEdge_touches
      { s.count .acceptedEdge with
        tracker := { s.tracker with lastAccepted := some t, role := s.tracker.edgeMode.roleAfterReference } } t
    exact ⟨_, _, _, _, h⟩

theorem State.considerEdge_touches (s : State) (t : Time) :
    ∃ tracker' intake' map' report', s.considerEdge t = { s with tracker := tracker', intake := intake', map := map', report := report' } := by
  unfold State.considerEdge
  split
  · exact s.acceptEdge_touches t
  · exact ⟨_, _, _, _, rfl⟩

theorem State.mainsTransition_touches (s : State) (r : Bool) :
    ∃ tracker' intake' map' report', s.mainsTransition r = { s with tracker := tracker', intake := intake', map := map', report := report' } := by
  simp only [State.mainsTransition]
  split
  · exact ⟨_, _, _, _, rfl⟩
  · split
    · obtain ⟨_, _, _, _, h⟩ := State.considerEdge_touches
        { s with tracker := { s.tracker with mainsHigh := r, lastTransition := some s.air.airTime } } s.air.airTime
      exact ⟨_, _, _, _, h⟩
    · exact ⟨_, _, _, _, rfl⟩

theorem State.takeLockExpiry_touches (s : State) :
    ∃ tracker' map', s.takeLockExpiry = { s with tracker := tracker', map := map' } := by
  unfold State.takeLockExpiry
  split <;> exact ⟨_, _, rfl⟩

theorem State.takeCoastExpiry_touches (s : State) :
    ∃ tracker' map' report', s.takeCoastExpiry = { s with tracker := tracker', map := map', report := report' } := by
  unfold State.takeCoastExpiry
  split
  · split <;> exact ⟨_, _, _, rfl⟩
  · exact ⟨_, _, _, rfl⟩

theorem State.takeTrackerExpiry_touches (s : State) :
    ∃ tracker' map' report', s.takeTrackerExpiry = { s with tracker := tracker', map := map', report := report' } := by
  unfold State.takeTrackerExpiry
  split
  · obtain ⟨_, _, h⟩ := s.takeLockExpiry_touches
    exact ⟨_, _, _, h⟩
  · exact s.takeCoastExpiry_touches
  · exact ⟨_, _, _, rfl⟩

theorem State.giveEvidence_touches (s : State) (f : Fold) (a : Time) (n : Nat) (v : SliceSet) (k : CellStep) :
    ∃ air' intake' map' schedule' report', s.giveEvidence f a n v k = { s with air := air', intake := intake', map := map', schedule := schedule', report := report' } := by
  unfold State.giveEvidence
  split
  · obtain ⟨_, _, _, h⟩ := (s.count .unphasedEvidence).endFold_touches
    exact ⟨_, _, _, _, _, h⟩
  · exact ⟨_, _, _, _, _, rfl⟩

theorem State.foldSweep_touches (s : State) (f : Fold) (x : SpectralEntry) (v : Bool) :
    ∃ air' intake' map' schedule' report', s.foldSweep f x v = { s with air := air', intake := intake', map := map', schedule := schedule', report := report' } := by
  have done : ∀ u : State, (∃ i r, u = { s with intake := i, report := r }) →
      ∃ air' intake' map' schedule' report', u.endFold =
        { s with air := air', intake := intake', map := map', schedule := schedule', report := report' } := by
    rintro u ⟨i, r, rfl⟩
    obtain ⟨_, _, _, h⟩ := State.endFold_touches { s with intake := i, report := r }
    exact ⟨_, _, _, _, _, h⟩
  unfold State.foldSweep
  split
  · exact done _ ⟨_, _, rfl⟩
  · split
    · exact done _ ⟨_, _, rfl⟩
    · split
      · exact done _ ⟨_, _, rfl⟩
      · split
        · exact done _ ⟨_, _, rfl⟩
        · exact ⟨_, _, _, _, _, rfl⟩

theorem State.compareSequence_touches (s : State) (n : Nat) :
    ∃ intake' report', s.compareSequence n = { s with intake := intake', report := report' } := by
  simp only [State.compareSequence]
  split
  · exact ⟨_, _, rfl⟩
  · split <;> exact ⟨_, _, rfl⟩

theorem State.foldSpectral_touches (s : State) (f : Fold) (x : SpectralEntry) (v : Bool) :
    ∃ air' intake' map' schedule' report', s.foldSpectral f x v = { s with air := air', intake := intake', map := map', schedule := schedule', report := report' } := by
  unfold State.foldSpectral
  obtain ⟨_, _, h⟩ := s.compareSequence_touches x.sequence
  rw [h]
  obtain ⟨_, _, _, _, _, g⟩ := State.foldSweep_touches _ f x v
  exact ⟨_, _, _, _, _, g⟩

theorem State.foldFrameEvidence_touches (s : State) (f : Fold) (x : ReceiveEntry) (v n : Bool) (k : CellStep) :
    ∃ air' intake' map' schedule' report', s.foldFrameEvidence f x v n k = { s with air := air', intake := intake', map := map', schedule := schedule', report := report' } := by
  unfold State.foldFrameEvidence
  split
  · obtain ⟨_, _, _, h⟩ := s.endFold_touches
    exact ⟨_, _, _, _, _, h⟩
  · split
    · exact State.giveEvidence_touches _ _ _ _ _ _
    · obtain ⟨_, _, _, h⟩ := s.endFold_touches
      exact ⟨_, _, _, _, _, h⟩

theorem State.foldReceive_touches (s : State) (f : Fold) (x : ReceiveEntry) (v n : Bool) :
    ∃ air' intake' map' schedule' report', s.foldReceive f x v n = { s with air := air', intake := intake', map := map', schedule := schedule', report := report' } := by
  unfold State.foldReceive
  split
  · exact State.foldFrameEvidence_touches _ _ _ _ _ _
  · split
    · obtain ⟨_, _, _, h⟩ := s.endFold_touches
      exact ⟨_, _, _, _, _, h⟩
    · exact ⟨_, _, _, _, _, rfl⟩
  · obtain ⟨_, _, _, h⟩ := (s.count .foreignOther).endFold_touches
    exact ⟨_, _, _, _, _, h⟩
  · obtain ⟨_, _, _, h⟩ := s.endFold_touches
    exact ⟨_, _, _, _, _, h⟩

theorem State.foldCompletion_touches (s : State) (f : Fold) (x : CompletionEntry) (v : Bool) :
    ∃ air' intake' map' schedule' report', s.foldCompletion f x v = { s with air := air', intake := intake', map := map', schedule := schedule', report := report' } := by
  unfold State.foldCompletion
  split
  · exact State.giveEvidence_touches _ _ _ _ _ _
  · obtain ⟨_, _, _, h⟩ := s.endFold_touches
    exact ⟨_, _, _, _, _, h⟩

theorem State.recount_touches (s : State) :
    ∃ map' report', s.recount = { s with map := map', report := report' } := by
  simp only [State.recount]
  split <;> exact ⟨_, _, rfl⟩

theorem State.serveEvidence_touches (s : State) (e : Evidence) :
    ∃ map' report', s.serveEvidence e = { s with map := map', report := report' } := by
  unfold State.serveEvidence
  exact (State.recount_touches _).imp fun _ h => h.imp fun _ g => g

theorem State.serveSettings_touches (s : State) (m : MapSettings) :
    ∃ map' report', s.serveSettings m = { s with map := map', report := report' } := by
  unfold State.serveSettings
  exact (State.recount_touches _).imp fun _ h => h.imp fun _ g => g

theorem State.serveAge_touches (s : State) :
    ∃ map' report', s.serveAge = { s with map := map', report := report' } := by
  unfold State.serveAge
  split
  · exact (State.recount_touches _).imp fun _ h => h.imp fun _ g => g
  · split <;> exact (State.recount_touches _).imp fun _ h => h.imp fun _ g => g

theorem State.takeSnapshot_touches (s : State) :
    ∃ map', s.takeSnapshot = { s with map := map' } := by
  unfold State.takeSnapshot
  split <;> exact ⟨_, rfl⟩

theorem State.takeMiss_touches (s : State) (i : Fin 8) :
    ∃ schedule', s.takeMiss i = { s with schedule := schedule' } := by
  unfold State.takeMiss
  split
  · split <;> exact ⟨_, rfl⟩
  · exact ⟨_, rfl⟩

theorem State.armSlot_touches (s : State) (i : Fin 8) (e : Neighbour) :
    ∃ schedule', s.armSlot i e = { s with schedule := schedule' } := by
  dsimp only [State.armSlot]
  split <;> exact ⟨_, rfl⟩

theorem State.updateEntry_touches (s : State) (i : Fin 8) (e : Neighbour) (u : BeaconUpdate) :
    ∃ schedule' report', s.updateEntry i e u = { s with schedule := schedule', report := report' } := by
  have armed : ∀ (t : State) (f : Neighbour), (∃ r, t = { s with report := r }) →
      ∃ schedule' report', t.armSlot i f = { s with schedule := schedule', report := report' } := by
    rintro t f ⟨r, rfl⟩
    obtain ⟨_, h⟩ := State.armSlot_touches { s with report := r } i f
    exact ⟨_, _, h⟩
  unfold State.updateEntry
  split
  · exact armed _ _ ⟨_, rfl⟩
  · split
    · exact armed _ _ ⟨_, rfl⟩
    · split
      · exact ⟨_, _, rfl⟩
      · exact armed _ _ ⟨_, rfl⟩

theorem State.takeNewcomer_touches (s : State) (u : BeaconUpdate) :
    ∃ schedule' report', s.takeNewcomer u = { s with schedule := schedule', report := report' } := by
  have armed : ∀ (t : State) (i : Fin 8) (f : Neighbour), (∃ r, t = { s with report := r }) →
      ∃ schedule' report', t.armSlot i f = { s with schedule := schedule', report := report' } := by
    rintro t i f ⟨r, rfl⟩
    obtain ⟨_, h⟩ := State.armSlot_touches { s with report := r } i f
    exact ⟨_, _, h⟩
  unfold State.takeNewcomer
  split
  · exact armed _ _ _ ⟨_, rfl⟩
  · split
    · exact ⟨_, _, rfl⟩
    · split
      · exact ⟨_, _, rfl⟩
      · exact armed _ _ _ ⟨_, rfl⟩

theorem State.serveUpdate_touches (s : State) (u : BeaconUpdate) :
    ∃ schedule' report', s.serveUpdate u = { s with schedule := schedule', report := report' } := by
  unfold State.serveUpdate
  split
  · exact ⟨_, _, rfl⟩
  · split
    · exact s.takeNewcomer_touches u
    · split
      · exact s.updateEntry_touches _ _ u
      · exact ⟨_, _, rfl⟩

theorem State.missBeacon_touches (s : State) (i : Fin 8) (e : Neighbour) :
    ∃ schedule' report', s.missBeacon i e = { s with schedule := schedule', report := report' } := by
  unfold State.missBeacon
  split
  · exact ⟨_, _, rfl⟩
  · obtain ⟨_, h⟩ := s.armSlot_touches i e.afterMiss
    exact ⟨_, _, h⟩

theorem State.serveExpiry_touches (s : State) (i : Fin 8) (a : BitVec 48) :
    ∃ schedule' report', s.serveExpiry i a = { s with schedule := schedule', report := report' } := by
  unfold State.serveExpiry
  split
  · split
    · exact s.missBeacon_touches _ _
    · exact ⟨_, _, rfl⟩
  · exact ⟨_, _, rfl⟩

theorem State.rearmSlot_touches (s : State) (i : Fin 8) :
    ∃ schedule', s.rearmSlot i = { s with schedule := schedule' } := by
  unfold State.rearmSlot
  split
  · exact s.armSlot_touches _ _
  · exact ⟨_, rfl⟩

/-- A fold over a list of an operation that touches one block touches that block. -/
theorem foldl_touches_schedule {α : Type} (f : State → α → State)
    (hf : ∀ s a, ∃ schedule', f s a = { s with schedule := schedule' }) (l : List α) (s : State) :
    ∃ schedule', l.foldl f s = { s with schedule := schedule' } := by
  induction l generalizing s with
  | nil => exact ⟨_, rfl⟩
  | cons a l ih =>
    obtain ⟨_, h⟩ := hf s a
    obtain ⟨_, g⟩ := ih (f s a)
    rw [List.foldl_cons, g, h]
    exact ⟨_, rfl⟩

/-- A fold over a list of an operation that touches the pending list and the Report Unit touches those. -/
theorem foldl_touches_rewriter {α : Type} (f : State → α → State)
    (hf : ∀ s a, ∃ rewriter' report', f s a = { s with rewriter := rewriter', report := report' }) (l : List α)
    (s : State) : ∃ rewriter' report', l.foldl f s = { s with rewriter := rewriter', report := report' } := by
  induction l generalizing s with
  | nil => exact ⟨_, _, rfl⟩
  | cons a l ih =>
    obtain ⟨_, _, h⟩ := hf s a
    obtain ⟨_, _, g⟩ := ih (f s a)
    rw [List.foldl_cons, g, h]
    exact ⟨_, _, rfl⟩

theorem State.serveNeighbourSettings_touches (s : State) (n : NeighbourFields) :
    ∃ schedule', s.serveNeighbourSettings n = { s with schedule := schedule' } := by
  simp only [State.serveNeighbourSettings]
  split
  · exact ⟨_, rfl⟩
  · obtain ⟨_, h⟩ := foldl_touches_schedule State.rearmSlot State.rearmSlot_touches (List.finRange 8)
      { s with schedule.settings := n }
    exact ⟨_, h⟩

theorem State.takeMisses_touches (s : State) :
    ∃ schedule', s.takeMisses = { s with schedule := schedule' } := by
  exact foldl_touches_schedule State.takeMiss State.takeMiss_touches (List.finRange 8) s

theorem State.takeStale_touches (s : State) (i : Nat) :
    ∃ rewriter' report', s.takeStale i = { s with rewriter := rewriter', report := report' } := by
  unfold State.takeStale
  split
  · split <;> exact ⟨_, _, rfl⟩
  · exact ⟨_, _, rfl⟩

theorem State.takeStales_touches (s : State) :
    ∃ rewriter' report', s.takeStales = { s with rewriter := rewriter', report := report' } := by
  exact foldl_touches_rewriter State.takeStale State.takeStale_touches _ s

theorem State.abandon_touches (s : State) (i : Nat) :
    ∃ rewriter' report', s.abandon i = { s with rewriter := rewriter', report := report' } := by
  unfold State.abandon
  split <;> exact ⟨_, _, rfl⟩

theorem State.abandonments_touches (s : State) (addr : Addr) (n : Nat) :
    ∃ rewriter' report', s.abandonments addr n = { s with rewriter := rewriter', report := report' } := by
  unfold State.abandonments
  split
  · exact foldl_touches_rewriter State.abandon State.abandon_touches _ s
  · exact ⟨_, _, rfl⟩

theorem State.makeRoom_touches (s : State) :
    ∃ rewriter' report', s.makeRoom = { s with rewriter := rewriter', report := report' } := by
  unfold State.makeRoom
  split <;> exact ⟨_, _, rfl⟩

theorem State.openEntry_touches (s : State) (e : PendingEntry) :
    ∃ rewriter' report', s.openEntry e = { s with rewriter := rewriter', report := report' } := by
  simp only [State.openEntry]
  obtain ⟨_, _, h⟩ := s.makeRoom_touches
  rw [h]
  split <;> exact ⟨_, _, rfl⟩

theorem State.reachRewriter_touches (s : State) (i : Nat) (w : Words8) (t : Time) :
    ∃ admission' rewriter' report' bus', s.reachRewriter i w t = { s with admission := admission', rewriter := rewriter', report := report', bus := bus' } := by
  unfold State.reachRewriter
  split
  · exact ⟨_, _, _, _, rfl⟩
  · split <;> exact ⟨_, _, _, _, rfl⟩

theorem State.passOn_touches (s : State) (p : Piece) :
    ∃ admission' rewriter' report' bus', s.passOn p = { s with admission := admission', rewriter := rewriter', report := report', bus := bus' } := by
  unfold State.passOn
  split
  · exact ⟨_, _, _, _, rfl⟩
  · exact State.reachRewriter_touches _ _ _ _

theorem State.passOnAll_touches (s : State) (ps : List Piece) :
    ∃ admission' rewriter' report' bus', (s.passOnAll ps).1 = { s with admission := admission', rewriter := rewriter', report := report', bus := bus' } := by
  induction ps generalizing s with
  | nil => exact ⟨_, _, _, _, rfl⟩
  | cons p rest ih =>
    unfold State.passOnAll
    split
    · exact ⟨_, _, _, _, rfl⟩
    · obtain ⟨_, _, _, _, h⟩ := s.passOn_touches p
      obtain ⟨_, _, _, _, g⟩ := ih (s.passOn p)
      rw [g, h]
      exact ⟨_, _, _, _, rfl⟩

theorem State.keepReading_touches (s : State) (a : List Segment) (b : List Piece) :
    ∃ bus', s.keepReading a b = { s with bus := bus' } := by
  unfold State.keepReading
  split <;> exact ⟨_, rfl⟩

theorem State.continueRead_touches (s : State) (a : List Segment) (ps : List Piece) :
    ∃ admission' rewriter' report' bus', s.continueRead a ps = { s with admission := admission', rewriter := rewriter', report := report', bus := bus' } := by
  unfold State.continueRead
  obtain ⟨_, _, _, _, h⟩ := s.passOnAll_touches ps
  obtain ⟨_, g⟩ := (s.passOnAll ps).1.keepReading_touches a (s.passOnAll ps).2
  rw [g, h]
  exact ⟨_, _, _, _, rfl⟩

theorem State.endAdmission_touches (s : State) (v : AdmissionView) :
    ∃ admission' rewriter' report' bus', s.endAdmission v = { s with admission := admission', rewriter := rewriter', report := report', bus := bus' } := by
  simp only [State.endAdmission]
  obtain ⟨_, _, h⟩ := State.openEntry_touches
    { (s.count v.verdict.decision.counter).count v.verdict.reason.counter with
      admission := { relief := reliefAfter v.verdict.decision s.admission.relief, inProgress := none } }
    (v.entry s.policy.shaping.timeoutMs)
  rw [h]
  split
  · obtain ⟨_, _, _, _, g⟩ := State.continueRead_touches _ _ _
    rw [g]
    exact ⟨_, _, _, _, rfl⟩
  · exact ⟨_, _, _, _, rfl⟩

theorem State.pushEvidence_touches (s : State) (e : PendingEntry) (a b : Word) :
    ∃ air' intake' report', s.pushEvidence e a b = { s with air := air', intake := intake', report := report' } := by
  unfold State.pushEvidence
  split
  · split
    · exact ⟨_, _, _, rfl⟩
    · exact State.arrive_touches _ _
  · exact ⟨_, _, _, rfl⟩

theorem State.complete_touches (s : State) (i : Nat) (a b : Word) :
    ∃ air' intake' rewriter' report', s.complete i a b = { s with air := air', intake := intake', rewriter := rewriter', report := report' } := by
  unfold State.complete
  split
  · rename_i e _
    obtain ⟨_, _, _, h⟩ := ((s.removeEntry i).count .matched).pushEvidence_touches e a b
    rw [h]
    exact ⟨_, _, _, _, rfl⟩
  · exact ⟨_, _, _, _, rfl⟩

theorem State.sendPlain_touches (s : State) {mark : Type} (k : List (Option mark × WriteWord) → Service)
    (l : List (Option mark × WriteWord)) : ∃ bus', s.sendPlain k l = { s with bus := bus' } := ⟨_, rfl⟩

theorem State.takeTxWrite_touches (s : State) (addr : Addr) (words : List WriteWord) :
    ∃ bus', s.takeTxWrite addr words = { s with bus := bus' } := by
  unfold State.takeTxWrite
  split <;> exact ⟨_, rfl⟩

theorem State.nextCompletion_touches (s : State) :
    ∃ air' intake' rewriter' report' bus', s.nextCompletion = { s with air := air', intake := intake', rewriter := rewriter', report := report', bus := bus' } := by
  unfold State.nextCompletion
  split
  · rename_i index w rest _
    obtain ⟨_, _, _, _, h⟩ := s.complete_touches index w.data (word5After rest)
    rw [h]
    exact ⟨_, _, _, _, _, rfl⟩
  · exact ⟨_, _, _, _, _, rfl⟩

theorem State.arriveRecord_touches (s : State) (a : Time) (r : IntakeRecord) :
    ∃ air' intake' report', s.arriveRecord a r = { s with air := air', intake := intake', report := report' } := by
  unfold State.arriveRecord
  split
  · split
    · exact State.arrive_touches _ _
    · exact ⟨_, _, _, rfl⟩
  · split
    · exact State.arrive_touches _ _
    · exact ⟨_, _, _, rfl⟩
  · exact ⟨_, _, _, rfl⟩

theorem State.takeRxWrite_touches (s : State) (addr : Addr) (words : List WriteWord) :
    ∃ bus', s.takeRxWrite addr words = { s with bus := bus' } := by
  unfold State.takeRxWrite
  split <;> exact ⟨_, rfl⟩

theorem State.nextRecord_touches (s : State) :
    ∃ air' intake' report' bus', s.nextRecord = { s with air := air', intake := intake', report := report', bus := bus' } := by
  unfold State.nextRecord
  split
  · rename_i arrival r w rest _
    obtain ⟨_, _, _, h⟩ := s.arriveRecord_touches arrival r
    rw [h]
    exact ⟨_, _, _, _, rfl⟩
  · exact ⟨_, _, _, _, rfl⟩

theorem State.countClamp_touches (s : State) (b : Bool) :
    ∃ report', s.countClamp b = { s with report := report' } := by
  unfold State.countClamp
  split <;> exact ⟨_, rfl⟩

theorem State.acceptConfiguration_touches (s : State) (w : Words8) (k : Nat) (b : Bool) :
    ∃ policy' report', s.acceptConfiguration w k b = { s with policy := policy', report := report' } := by
  unfold State.acceptConfiguration
  obtain ⟨_, h⟩ := s.countClamp_touches b
  rw [h]
  exact ⟨_, _, rfl⟩

theorem State.judgeWindows_touches (s : State) (w : Words8) :
    ∃ rewriter' policy' report' bus', s.judgeWindows w = { s with rewriter := rewriter', policy := policy', report := report', bus := bus' } := by
  unfold State.judgeWindows
  split
  · exact ⟨_, _, _, _, rfl⟩
  · obtain ⟨_, _, h⟩ := s.acceptConfiguration_touches w 1 false
    rw [h]
    exact ⟨_, _, _, _, rfl⟩

theorem State.radioChange_touches (s : State) (a b : RadioFields) :
    ∃ intake' map' schedule' rewriter', s.radioChange a b = { s with intake := intake', map := map', schedule := schedule', rewriter := rewriter' } := by
  unfold State.radioChange
  split
  · exact ⟨_, _, _, _, rfl⟩
  · split <;> exact ⟨_, _, _, _, rfl⟩

theorem State.judgeRadio_touches (s : State) (w : Words8) :
    ∃ intake' map' schedule' rewriter' policy' report', s.judgeRadio w = { s with intake := intake', map := map', schedule := schedule', rewriter := rewriter', policy := policy', report := report' } := by
  unfold State.judgeRadio
  split
  · exact ⟨_, _, _, _, _, _, rfl⟩
  · rename_i new _
    obtain ⟨_, _, h⟩ := s.acceptConfiguration_touches w 2 (decide (field w.w2 8 8 < 16))
    rw [h]
    obtain ⟨_, _, _, _, g⟩ := State.radioChange_touches _ s.policy.radio new
    rw [g]
    exact ⟨_, _, _, _, _, _, rfl⟩

theorem State.judgeRates_touches (s : State) (w : Words8) (k b : Nat) :
    ∃ policy' report', s.judgeRates w k b = { s with policy := policy', report := report' } := by
  unfold State.judgeRates
  obtain ⟨_, _, h⟩ := s.acceptConfiguration_touches w k false
  rw [h]
  exact ⟨_, _, rfl⟩

theorem State.trackerSettings_touches (s : State) (m : EdgeMode) (n : Nat) :
    ∃ tracker' intake' map', s.trackerSettings m n = { s with tracker := tracker', intake := intake', map := map' } := by
  unfold State.trackerSettings
  split <;> exact ⟨_, _, _, rfl⟩

theorem State.judgeMains_touches (s : State) (w : Words8) :
    ∃ tracker' intake' map' policy' report', s.judgeMains w = { s with tracker := tracker', intake := intake', map := map', policy := policy', report := report' } := by
  simp only [State.judgeMains]
  obtain ⟨_, _, h⟩ := s.acceptConfiguration_touches w 5 (field w.w2 8 4 == 0)
  rw [h]
  obtain ⟨_, _, _, g⟩ := State.trackerSettings_touches _ (edgeModeOfCode (field w.w2 0 2)) (atLeastOne (field w.w2 8 4))
  rw [g]
  exact ⟨_, _, _, _, _, rfl⟩

theorem State.judgeMap_touches (s : State) (w : Words8) :
    ∃ map' policy' report', s.judgeMap w = { s with map := map', policy := policy', report := report' } := by
  simp only [State.judgeMap]
  obtain ⟨_, _, h⟩ := s.acceptConfiguration_touches w 6 (w.mapCarried.clamped != w.mapCarried)
  rw [h]
  exact ⟨_, _, _, rfl⟩

theorem State.judgeNeighbour_touches (s : State) (w : Words8) :
    ∃ schedule' policy' report', s.judgeNeighbour w = { s with schedule := schedule', policy := policy', report := report' } := by
  simp only [State.judgeNeighbour]
  obtain ⟨_, _, h⟩ := s.acceptConfiguration_touches w 7 (w.neighbourCarried.clamped != w.neighbourCarried)
  rw [h]
  exact ⟨_, _, _, rfl⟩

theorem State.judgeShaping_touches (s : State) (w : Words8) :
    ∃ policy' report', s.judgeShaping w = { s with policy := policy', report := report' } := by
  simp only [State.judgeShaping]
  obtain ⟨_, _, h⟩ := s.acceptConfiguration_touches w 8 (w.shapingCarried.timeoutMs == 0)
  rw [h]
  exact ⟨_, _, rfl⟩

theorem State.refreshKeepalive_touches (s : State) (p : Nat) :
    ∃ admission' policy', s.refreshKeepalive p = { s with admission := admission', policy := policy' } := by
  simp only [State.refreshKeepalive]
  split <;> exact ⟨_, _, rfl⟩

theorem State.releaseKeepalive_touches (s : State) :
    ∃ policy', s.releaseKeepalive = { s with policy := policy' } := by
  unfold State.releaseKeepalive
  split <;> exact ⟨_, rfl⟩

theorem State.judgeKeepalive_touches (s : State) (w : Words8) :
    ∃ admission' policy' report', s.judgeKeepalive w = { s with admission := admission', policy := policy', report := report' } := by
  simp only [State.judgeKeepalive]
  obtain ⟨_, h⟩ := s.countClamp_touches (field w.w2 16 8 == 0)
  rw [h]
  split
  · split
    · exact ⟨_, _, _, rfl⟩
    · obtain ⟨_, _, g⟩ := State.refreshKeepalive_touches _ (atLeastOne (field w.w2 16 8))
      rw [g]
      exact ⟨_, _, _, rfl⟩
  · split
    · obtain ⟨_, g⟩ := State.releaseKeepalive_touches _
      rw [g]
      exact ⟨_, _, _, rfl⟩
    · exact ⟨_, _, _, rfl⟩

theorem State.judgeClear_touches (s : State) (w : Words8) :
    ∃ intake' map' schedule' policy' report', s.judgeClear w = { s with intake := intake', map := map', schedule := schedule', policy := policy', report := report' } := by
  unfold State.judgeClear State.applyIf
  split <;> split <;> split <;> exact ⟨_, _, _, _, _, rfl⟩

theorem State.judgeRecord_touches (s : State) (w : Words8) :
    ∃ tracker' intake' map' schedule' admission' rewriter' policy' report' bus', s.judgeRecord w = { s with tracker := tracker', intake := intake', map := map', schedule := schedule', admission := admission', rewriter := rewriter', policy := policy', report := report', bus := bus' } := by
  unfold State.judgeRecord
  split
  · obtain ⟨_, _, _, _, h⟩ := s.judgeWindows_touches w
    rw [h]
    exact ⟨_, _, _, _, _, _, _, _, _, rfl⟩
  · obtain ⟨_, _, _, _, _, _, h⟩ := s.judgeRadio_touches w
    rw [h]
    exact ⟨_, _, _, _, _, _, _, _, _, rfl⟩
  · obtain ⟨_, _, h⟩ := s.judgeRates_touches w 3 0
    rw [h]
    exact ⟨_, _, _, _, _, _, _, _, _, rfl⟩
  · obtain ⟨_, _, h⟩ := s.judgeRates_touches w 4 8
    rw [h]
    exact ⟨_, _, _, _, _, _, _, _, _, rfl⟩
  · obtain ⟨_, _, _, _, _, h⟩ := s.judgeMains_touches w
    rw [h]
    exact ⟨_, _, _, _, _, _, _, _, _, rfl⟩
  · obtain ⟨_, _, _, h⟩ := s.judgeMap_touches w
    rw [h]
    exact ⟨_, _, _, _, _, _, _, _, _, rfl⟩
  · obtain ⟨_, _, _, h⟩ := s.judgeNeighbour_touches w
    rw [h]
    exact ⟨_, _, _, _, _, _, _, _, _, rfl⟩
  · obtain ⟨_, _, h⟩ := s.judgeShaping_touches w
    rw [h]
    exact ⟨_, _, _, _, _, _, _, _, _, rfl⟩
  · obtain ⟨_, _, _, h⟩ := s.judgeKeepalive_touches w
    rw [h]
    exact ⟨_, _, _, _, _, _, _, _, _, rfl⟩
  · exact ⟨_, _, _, _, _, _, _, _, _, rfl⟩
  · obtain ⟨_, _, _, _, _, h⟩ := s.judgeClear_touches w
    rw [h]
    exact ⟨_, _, _, _, _, _, _, _, _, rfl⟩
  all_goals exact ⟨_, _, _, _, _, _, _, _, _, rfl⟩

theorem State.checkRecord_touches (s : State) (w : Words8) :
    ∃ tracker' intake' map' schedule' admission' rewriter' policy' report' bus', s.checkRecord w = { s with tracker := tracker', intake := intake', map := map', schedule := schedule', admission := admission', rewriter := rewriter', policy := policy', report := report', bus := bus' } := by
  unfold State.checkRecord
  split
  · exact s.judgeRecord_touches w
  · exact ⟨_, _, _, _, _, _, _, _, _, rfl⟩

theorem State.takeCpuWrite_touches (s : State) (addr : Addr) (words : List WriteWord) :
    ∃ tracker' intake' map' schedule' admission' rewriter' policy' report' bus', s.takeCpuWrite addr words = { s with tracker := tracker', intake := intake', map := map', schedule := schedule', admission := admission', rewriter := rewriter', policy := policy', report := report', bus := bus' } := by
  simp only [State.takeCpuWrite]
  split
  · obtain ⟨_, _, _, _, _, _, _, _, _, h⟩ :=
      (s.forward (forwardedWrite .cpu addr words)).checkRecord_touches (recordWords words)
    exact ⟨_, _, _, _, _, _, _, _, _, h⟩
  · obtain ⟨_, _, h⟩ := (s.forward (forwardedWrite .cpu addr words)).abandonments_touches addr words.length
    rw [h]
    exact ⟨_, _, _, _, _, _, _, _, _, rfl⟩

theorem State.takeTxRead_touches (s : State) (addr : Addr) (ws : List Word) :
    ∃ admission' rewriter' report' bus', s.takeTxRead addr ws = { s with admission := admission', rewriter := rewriter', report := report', bus := bus' } := by
  simp only [State.takeTxRead]
  split
  · exact ⟨_, _, _, _, rfl⟩
  · obtain ⟨_, _, _, _, h⟩ := State.continueRead_touches (s.forward (forwardedRead .txDma addr ws.length)) _ _
    rw [h]
    exact ⟨_, _, _, _, rfl⟩

theorem State.takeCpuRead_touches (s : State) (addr : Addr) (ws : List Word) :
    ∃ bus', s.takeCpuRead addr ws = { s with bus := bus' } := by
  simp only [State.takeCpuRead]
  split
  · exact ⟨_, rfl⟩
  · split <;> exact ⟨_, rfl⟩

theorem State.takeRead_touches (s : State) (tag : Tag) (addr : Addr) (ws : List Word) :
    ∃ admission' rewriter' report' bus', s.takeRead tag addr ws = { s with admission := admission', rewriter := rewriter', report := report', bus := bus' } := by
  unfold State.takeRead
  split
  · obtain ⟨_, h⟩ := s.takeCpuRead_touches addr ws
    exact ⟨_, _, _, _, h⟩
  · exact s.takeTxRead_touches addr ws
  all_goals exact ⟨_, _, _, _, rfl⟩

theorem State.takeTransfer_touches (s : State) (t : Transfer) :
    ∃ tracker' intake' map' schedule' admission' rewriter' policy' report' bus', s.takeTransfer t = { s with tracker := tracker', intake := intake', map := map', schedule := schedule', admission := admission', rewriter := rewriter', policy := policy', report := report', bus := bus' } := by
  unfold State.takeTransfer
  split
  · exact ⟨_, _, _, _, _, _, _, _, _, rfl⟩
  · split
    · unfold State.passThrough
      split <;> exact ⟨_, _, _, _, _, _, _, _, _, rfl⟩
    · split
      · obtain ⟨_, _, _, _, h⟩ := s.takeRead_touches _ _ _
        rw [h]
        exact ⟨_, _, _, _, _, _, _, _, _, rfl⟩
      · unfold State.takeWrite
        split
        · obtain ⟨_, _, _, _, _, _, _, _, _, h⟩ := s.takeCpuWrite_touches _ _
          rw [h]
          exact ⟨_, _, _, _, _, _, _, _, _, rfl⟩
        · obtain ⟨_, h⟩ := s.takeTxWrite_touches _ _
          rw [h]
          exact ⟨_, _, _, _, _, _, _, _, _, rfl⟩
        · obtain ⟨_, h⟩ := s.takeRxWrite_touches _ _
          rw [h]
          exact ⟨_, _, _, _, _, _, _, _, _, rfl⟩
        · exact ⟨_, _, _, _, _, _, _, _, _, rfl⟩

theorem State.returnSegment_touches (s : State) (g : Segment) :
    ∃ report', (s.returnSegment g).1 = { s with report := report' } := by
  unfold State.returnSegment
  split
  · exact ⟨_, rfl⟩
  · dsimp only
    split <;> exact ⟨_, rfl⟩
  · exact ⟨_, rfl⟩

theorem State.nextDescriptor_touches (s : State) :
    ∃ admission' rewriter' report' bus', s.nextDescriptor = { s with admission := admission', rewriter := rewriter', report := report', bus := bus' } := by
  simp only [State.nextDescriptor]
  split
  · rename_i g rest behind _
    obtain ⟨_, h⟩ := s.returnSegment_touches g
    obtain ⟨_, _, _, _, k⟩ := State.continueRead_touches (s.returnSegment g).1 (splitOutside rest).2
      (behind ++ (s.returnSegment g).2 :: (splitOutside rest).1)
    rw [k, h]
    exact ⟨_, _, _, _, rfl⟩
  · exact ⟨_, _, _, _, rfl⟩

theorem State.nextReportWord_touches (s : State) :
    ∃ map' bus', s.nextReportWord = { s with map := map', bus := bus' } := by
  simp only [State.nextReportWord]
  split
  · rename_i address data rest _
    split
    · obtain ⟨_, h⟩ := State.takeSnapshot_touches
        ({ s.deliver [s.substituted address data] with
            bus := { (s.deliver [s.substituted address data]).bus with service := none } } : State)
      rw [h]
      exact ⟨_, _, rfl⟩
    · exact ⟨_, _, rfl⟩
  · exact ⟨_, _, rfl⟩

theorem State.decreaseKeepalive_touches (s : State) :
    ∃ policy' report', s.decreaseKeepalive = { s with policy := policy', report := report' } := by
  unfold State.decreaseKeepalive
  split
  · split <;> exact ⟨_, _, rfl⟩
  all_goals exact ⟨_, _, rfl⟩

theorem State.takeTick_touches (s : State) :
    ∃ air' policy' report', s.takeTick = { s with air := air', policy := policy', report := report' } := by
  unfold State.takeTick
  split
  · obtain ⟨_, _, h⟩ := State.decreaseKeepalive_touches { s with air.tickDue := false }
    exact ⟨_, _, _, h⟩
  · exact ⟨_, _, _, rfl⟩

theorem State.settle_touches (s : State) :
    ∃ air' tracker' map' schedule' rewriter' policy' report', s.settle = { s with air := air', tracker := tracker', map := map', schedule := schedule', rewriter := rewriter', policy := policy', report := report' } := by
  unfold State.settle
  obtain ⟨_, _, _, h⟩ := s.takeTick_touches
  obtain ⟨_, _, _, g⟩ := s.takeTick.takeTrackerExpiry_touches
  obtain ⟨_, _, k⟩ := s.takeTick.takeTrackerExpiry.takeStales_touches
  obtain ⟨_, l⟩ := s.takeTick.takeTrackerExpiry.takeStales.takeMisses_touches
  rw [l, k, g, h]
  exact ⟨_, _, _, _, _, _, _, rfl⟩

theorem State.tickMicrosecond_touches (s : State) :
    ∃ air' tracker' map' schedule' rewriter' policy' report' bus', s.tickMicrosecond = { s with air := air', tracker := tracker', map := map', schedule := schedule', rewriter := rewriter', policy := policy', report := report', bus := bus' } := by
  unfold State.tickMicrosecond
  split
  · exact ⟨_, _, _, _, _, _, _, _, rfl⟩
  · obtain ⟨_, _, _, _, _, _, _, h⟩ := s.settle_touches
    rw [h]
    exact ⟨_, _, _, _, _, _, _, _, rfl⟩

end Sys2Proof.Machine
end

