-- ==== Sys2Proof/WellFormed.lean ====
section
/-! DEFINITION. Which commands can occur: what the bus can carry, and what names a record row. -/

namespace Sys2Proof

/-- A transfer starts at a word-aligned address (section 1.1). -/
def wordAligned (addr : Addr) : Bool := addr.extractLsb' 0 2 == 0#2

/-- A transfer carries 1 to 16 words (section 1.1). -/
def lengthOk (n : Nat) : Bool := decide (1 ≤ n) && decide (n ≤ 16)

/-- What the bus can carry (section 1.1). -/
def Transfer.wellFormed : Transfer → Bool
  | .read _ addr returned => wordAligned addr && lengthOk returned.length
  | .write _ addr words => wordAligned addr && lengthOk words.length

/-- A read that is taken is one the bus can carry. -/
def ReadEvent.wellFormed : ReadEvent → Bool
  | .take addr returned => wordAligned addr && lengthOk returned.length
  | .next => true

/-- A write that is taken is one the bus can carry. -/
def writeOk (addr : Addr) (words : List WriteWord) : Bool := wordAligned addr && lengthOk words.length

/-- A write that is taken is one the bus can carry. -/
def WriteEvent.wellFormed (addr : Addr) : WriteEvent → Bool
  | .take words => writeOk addr words
  | .next => wordAligned addr

/-- The kind codes of UNKNOWN_KIND: 0 and 13..255 (R146). -/
def unknownKindCode (kind : BitVec 8) : Bool := kind == 0#8 || decide (13 ≤ kind.toNat)

/-- The values of KEEPALIVE_VALUE: neither the refresh nor the release (R157). -/
def unknownKeepaliveValue (value : BitVec 16) : Bool :=
  value != Config.refreshValue && value != Config.releaseValue

/-- A command that can occur: its transfer is one the bus can carry and its record is of its own row. -/
def Instr.wellFormed : Instr → Bool
  | .transfer t => t.wellFormed
  | .descriptorRead e => e.wellFormed
  | .reportRead e => e.wellFormed
  | .completionCandidate addr e => e.wellFormed addr
  | .possibleAbandonment addr words => writeOk addr words
  | .receiveRecordIntake addr e => e.wellFormed addr
  | .unknownKind addr kind _ => wordAligned addr && unknownKindCode kind
  | .keepaliveValue addr value _ => wordAligned addr && unknownKeepaliveValue value
  | .windows addr _ => wordAligned addr
  | .radio addr _ => wordAligned addr
  | .ratesLow addr _ => wordAligned addr
  | .ratesHigh addr _ => wordAligned addr
  | .mains addr _ => wordAligned addr
  | .map addr _ => wordAligned addr
  | .neighbour addr _ => wordAligned addr
  | .shaping addr _ => wordAligned addr
  | .keepaliveRefresh addr _ => wordAligned addr
  | .keepaliveRelease addr _ => wordAligned addr
  | .acknowledge addr _ => wordAligned addr
  | .clearMap addr _ => wordAligned addr
  | .clearNeighbours addr _ => wordAligned addr
  | .clearCounters addr _ => wordAligned addr
  | .restart addr _ => wordAligned addr
  | .staleExpiry index => decide (index < 1024)
  | .pinReset => true
  | .resetRelease => true
  | .tenMillisecondTick => true
  | .keepaliveExpiry => true
  | .admissionResult => true
  | .mainsEdge _ => true
  | .lockExpiry => true
  | .coastExpiry => true
  | .spectralFold => true
  | .receiveFold => true
  | .completionFold => true
  | .evidence => true
  | .age => true
  | .mapClear => true
  | .mapSettings => true
  | .snapshot => true
  | .beaconUpdate => true
  | .missExpiry _ => true
  | .missedBeacon => true
  | .neighbourClear => true
  | .neighbourSettings => true
  | .airTimeAdvance => true

end Sys2Proof
end

