-- ==== Sys2Proof/Tests/Slice0.lean ====
section
/-! SUPPORT. Tests on small states, with expected values from the worked examples and the tables of spec/ (each names its
section), and a refused ill-formed command for each check of WellFormed. -/

namespace Sys2Proof.Tests

open Sys2Proof Sys2Proof.Machine

-- One theorem is checked at a time: each check in flight holds a stack of its own.
set_option Elab.async false

/-! ### Ill-formed commands are refused -/

/-- A record body of zeros. -/
def zeros : RecordBody :=
  { sequence := 0, high := 0, w2 := 0, w3 := 0, w4 := 0, w5 := 0, w6 := 0, checksum := 0 }

/-- A write of `n` words of zeros with every byte enable set. -/
def blank (n : Nat) : List WriteWord := List.replicate n { data := 0, enables := 0xF }

theorem test_wf_unaligned_read : (Instr.transfer (.read .cpu 0x000002 [0])).wellFormed = false := by decide
theorem test_wf_empty_read : (Instr.transfer (.read .cpu 0x000004 [])).wellFormed = false := by decide
theorem test_wf_long_write : (Instr.transfer (.write .cpu 0x000004 (blank 17))).wellFormed = false := by decide
theorem test_wf_write : (Instr.transfer (.write .cpu 0x000004 (blank 16))).wellFormed = true := by decide
theorem test_wf_descriptor_read : (Instr.descriptorRead (.take 0x000001 [0])).wellFormed = false := by decide
theorem test_wf_report_read : (Instr.reportRead (.take 0x000003 [0])).wellFormed = false := by decide
theorem test_wf_completion : (Instr.completionCandidate 0x000004 (.take [])).wellFormed = false := by decide
theorem test_wf_abandonment : (Instr.possibleAbandonment 0x000001 (blank 1)).wellFormed = false := by decide
theorem test_wf_receive : (Instr.receiveRecordIntake 0x000004 (.take (blank 17))).wellFormed = false := by decide
theorem test_wf_known_kind_is_not_unknown : (Instr.unknownKind 0 12 zeros).wellFormed = false := by decide
theorem test_wf_unknown_kind : (Instr.unknownKind 0 13 zeros).wellFormed = true := by decide
theorem test_wf_keepalive_refresh_is_not_unknown : (Instr.keepaliveValue 0 0x5AC3 zeros).wellFormed = false := by decide
theorem test_wf_keepalive_release_is_not_unknown : (Instr.keepaliveValue 0 0 zeros).wellFormed = false := by decide
theorem test_wf_unaligned_record : (Instr.windows 0x000002 zeros).wellFormed = false := by decide
theorem test_wf_index : (Instr.staleExpiry 1024).wellFormed = false := by decide

/-! ### States to start from -/

/-- The state a command leaves. -/
def after (c : Instr) (s : State) : State :=
  match exec c s with
  | .next t => t
  | _ => s

/-- The windows of the examples of chapter 1. -/
def places : Windows :=
  { tx := { base := 0x020000, count := 256 }, rx := { base := 0x040000, count := 64 }
    spectral := { base := 0x050000, count := 16 }, report := 0x060000 }

/-- STANDBY with windows held and transfers observed. -/
def standby : State :=
  { State.reset with
    bus := { Classifier.reset with windows := some places, observing := true }
    policy := { Policy.reset with mode := .standby, received := 0xFF } }

/-- No address lies in two of the windows of the examples. -/
theorem places_apart (a : Nat) :
    [places.tx.holds 32 a, places.rx.holds 16 a, places.spectral.holds 32 a, places.inReport a].count true ≤ 1 := by
  have h1 : places.tx.holds 32 a = true → a < 262144 := fun h =>
    lt_trans (of_decide_eq_true h).2.1 (by decide)
  have h2 : places.rx.holds 16 a = true → 262144 ≤ a ∧ a < 327680 := fun h =>
    ⟨(of_decide_eq_true h).1, lt_trans (of_decide_eq_true h).2.1 (by decide)⟩
  have h3 : places.spectral.holds 32 a = true → 327680 ≤ a ∧ a < 393216 := fun h =>
    ⟨(of_decide_eq_true h).1, lt_trans (of_decide_eq_true h).2.1 (by decide)⟩
  have h4 : places.inReport a = true → 393216 ≤ a := fun h => (of_decide_eq_true h).1
  cases h5 : places.tx.holds 32 a <;> cases h6 : places.rx.holds 16 a <;> cases h7 : places.spectral.holds 32 a <;>
    cases h8 : places.inReport a <;> simp [h5, h6, h7, h8] at * <;> omega

/-- The windows of the examples are ones that a WINDOWS record may place. -/
theorem places_legal : places.Legal :=
  ⟨by decide, by decide, by decide, by decide, by decide, by decide, by decide, by decide, by decide, by decide, by decide,
    by decide, by decide, by decide, places_apart⟩

/-- ACTIVE, aligned, with the rate table, the locked tracker and the SHAPING fields of the examples of chapter 7. -/
def active : State :=
  { standby with
    air := { AirTimeUnit.reset with airTime := 3005000, offset := 1000000, aligned := true }
    tracker := { Tracker.reset with
      edgeMode := .falling, lockState := .locked, ref := some 3000000, period := some 20000
      expiry := some 3030000, coastLimit := 3 }
    policy := { Policy.reset with
      mode := .active, received := 0xFF, keepaliveCounter := 3, keepalivePeriod := 3
      radio := { channel := some 6, width := .mhz40, secondary := .above, preamble := 36, latency := 40, access := 200 }
      rates := { d20 := (Vector.replicate 16 0).set 7 260, d40 := (Vector.replicate 16 0).set 7 540 }
      shaping := { holdLimit := 8000, reliefCount := 3, acceptLevel := 48, timeoutMs := 5 } } }

/-- The address the records of these tests are written at, outside every window. -/
def free : Addr := 0x100000

/-- A body with the checksum that brings the sum of its record to 0 (R13). -/
def sealed (frame : RecordBody → Words8) (b : RecordBody) : RecordBody :=
  { b with checksum := 0 - (frame { b with checksum := 0 }).sum }

/-- The map of the first search example (section 7.6): bins 0..31 score 200, the others 20. -/
def oven : Vector Nat 256 := Vector.ofFn fun i => if i.val < 128 then 200 else 20

/-- The descriptor of the search examples: 1,500 bytes at rate code 7, 40 MHz, narrowable and deferrable, the radio's. -/
def queued : Words8 :=
  { w0 := 0, w1 := 0x000D75DC, w2 := 0, w3 := 0, w4 := 1, w5 := 0, w6 := 0, w7 := 0 }

/-- An entry of the pending transmit list for an index, as the first search example opens it. -/
def entryFor (index : Nat) : PendingEntry :=
  { index := index, fingerprint := queued.fingerprint, decision := .defer, reason := .shaped, width := .mhz40
    notBefore := some 4010000, plannedStart := 3010000, airtime := 128, slices := .all, plannedEnd := 3010128
    expiry := 3015128 }

/-- A neighbour of the examples of chapter 6. -/
def beaconer : Neighbour :=
  { address := 7, interval := 100, anchor := 1512005, airtime := 400, confidence := 3, missCount := 0, misaligned := 0
    lastSeen := 1512000, expiry := 1614917, taken := false }

/-- A table whose slot 0 holds an entry. -/
def tableWith (e : Neighbour) : Schedule :=
  { Schedule.reset with
    slots := (Vector.replicate 8 none).set 0 (some e)
    settings := { tolerance := 512, guardBefore := 200, guardAfter := 100, protect := 2 } }

/-- A completion write in service at word 4 of descriptor 9, nothing sent yet, with words left. -/
def writing (left : List (Option Nat × WriteWord)) : State :=
  { active with bus := { active.bus with
      mPort := some { write := true, tag := .txDma, addr := 0x020130, length := left.length, words := [] }
      service := some (.completions left) } }

/-- What a fold took, in the examples of chapter 4. -/
def folding : Fold :=
  { handedOn := false
    context :=
      { phase := some { ref := 3000000, period := 20000 }, radio := active.policy.radio, rates := active.policy.rates
        evidence := { Policy.reset.map with
          riseScan := 2, fallScan := 3, riseCorrupt := 3, fallClean := 4, riseFail := 2, fallSuccess := 4, hitLevel := -70
          busyMinimum := 64, corruptedOn := true, cleanOn := true, feedbackOn := true }
        offset := 1000000, aligned := true } }

/-- A state that holds one entry, its fold begun. -/
def inFold (b : EntryBody) : State :=
  { active with
    intake := { fifo := [{ body := b, voidMap := false, voidNeighbour := false }], fold := some folding
                lastSequence := some 9 } }

/-- A received frame. -/
def frame (k : FrameKind) : ReceiveEntry :=
  { arrival := 3005000, frameEnd := 4005000, length := 1500, rate := 7, width := .mhz40, kind := k, address := 7
    interval := 100 }

/-- A span-40 sweep over bins 16 and 17 with slices 2 and 3 hit (section 5.4). -/
def sweep : SpectralEntry :=
  { start := 4005000, duration := 500, channel := 6, span := .mhz40, report0 := { level := -90, busy := 0 }
    report1 := { level := -60, busy := 63 }, report2 := { level := -60, busy := 64 }
    report3 := { level := -70, busy := 255 }, sequence := 10 }

/-! ### Chapters 1 and 2 -/

/-- Section 1.5: a fetch of two descriptors holds the first, and delivers nothing yet. -/
theorem test_descriptor_fetch_is_held :
    (after (.descriptorRead (.take 0x020100 (queued.toList ++ queued.toList))) active).bus.service =
      some (.descriptors [.whole 8 queued, .whole 9 queued] []) := by decide +kernel

/-- Section 1.5: the owner's descriptor is delivered as stored. -/
theorem test_drivers_descriptor_passes :
    (after (.descriptorRead .next) { active with bus := { active.bus with
      service := some (.descriptors [.whole 8 { queued with w4 := 0 }] []) } }).bus.uPort =
      [0, 0x000D75DC, 0, 0, 0, 0, 0, 0] := by decide +kernel

/-- The marks of the words left of an RX-DMA write in service. -/
def marksLeft (s : State) : List (Option IntakeRecord) :=
  match s.bus.service with
  | some (.records _ rest) => rest.map Prod.fst
  | _ => []

/-- Section 1.4: write 2 takes records 62 and 63 before eight words past the end of the ring, and write 3 two records partly
covered. -/
theorem test_burst_at_the_rings_end :
    marksLeft (after (.receiveRecordIntake 0x0403E0 (.take (blank 16))) standby) =
      [some (.receive 62 0 0 0 0), none, none, none, some (.receive 63 0 0 0 0)] ++ List.replicate 8 none ∧
    marksLeft (after (.receiveRecordIntake 0x0403E8 (.take (blank 4))) standby) =
      [some .partly, none, some .partly] := by decide +kernel

/-- A record of an RX-DMA write in service at its last word, with one word and a partly covered record behind it. -/
def intaking (r : IntakeRecord) (s : State) : State :=
  { s with bus := { s.bus with
      mPort := some { write := true, tag := .rxDma, addr := 0x0403E0, length := 6, words := blank 3 }
      service := some (.records 3004990 ((some r, { data := 3, enables := 0xF }) ::
        ([{ data := 4, enables := 0xF }].map (fun x => (none, x)) ++ [(some .partly, { data := 5, enables := 0xF })]))) } }

/-- A full FIFO whose head fold waits for its request at the Map. -/
def full : State :=
  { active with
    intake := { fifo := List.replicate 8 { body := .spectral sweep, voidMap := false, voidNeighbour := false }
                fold := some { folding with handedOn := true }, lastSequence := some 10 }
    map := { OccupancyMap.reset with requests := [.evidence (uniformEvidence (Span.run 62 1) .low (.rise 2)) true] } }

/-- R54, section 4.8: between two records of a burst, the end of a fold lets the next record join a FIFO that was full; the
other way round it is dropped. -/
theorem test_fold_end_between_records :
    (after (.receiveRecordIntake 0x0403E0 .next) (after .evidence (intaking (.receive 62 0 0 0 0) full))).intake.fifo.length = 8 ∧
    (after (.receiveRecordIntake 0x0403E0 .next) (after .evidence (intaking (.receive 62 0 0 0 0) full))).counter .intakeDrop = 0 ∧
    (after .evidence (after (.receiveRecordIntake 0x0403E0 .next) (intaking (.receive 62 0 0 0 0) full))).intake.fifo.length = 7 ∧
    (after .evidence (after (.receiveRecordIntake 0x0403E0 .next) (intaking (.receive 62 0 0 0 0) full))).counter .intakeDrop = 1 := by
  decide +kernel

/-- Section 1.7: the checksum of the example brings the sum to 0. -/
theorem test_checksum : (0x6A3C31E5#32 + 0x12345678#32 + 0x838F77A3#32) = 0#32 := by decide

/-- R14: word 0 of the report area is the identity. -/
theorem test_identity :
    (after (.reportRead .next) { standby with bus := { standby.bus with
      service := some (.report [(0x060000, 7)]) } }).bus.uPort = [0x0C310100] := by decide +kernel

/-- R1: a transfer of tag OTHER passes with its data. -/
theorem test_other_read :
    (after (.transfer (.read .other 0x060000 [7])) standby).bus.uPort = [7] := by decide +kernel

/-- Section 2.1: Air Time wraps to 0, and 0 is a multiple of 10,000. -/
theorem test_air_time_wraps :
    (after .airTimeAdvance { standby with air := { standby.air with airTime := 0xFFFFFFFF } }).air =
      { AirTimeUnit.reset with airTime := 0, tickDue := true } := by decide +kernel

/-- R17: the value while RESET is asserted. -/
theorem test_pin_reset : (after .pinReset active).air.airTime = 0xFFFFFC00#32 := by decide +kernel

/-- R16: RESET between two completion words; the second goes to memory as it arrived, behind the first, which was coded. -/
theorem test_pin_reset_in_a_completion_write :
    (after .pinReset (after (.completionCandidate 0x020130 .next) (writing
      [(some 9, { data := 3, enables := 0xF }), (some 10, { data := 3, enables := 0xF })]))).bus.mPort.map Forwarded.words =
      some [{ data := 0x09000003, enables := 0xF }, { data := 3, enables := 0xF }] := by decide +kernel

theorem test_reset_release : (after .resetRelease (after .pinReset active)).bus.resetAsserted = false := by
  decide +kernel

/-- Section 2.2, the slewing example: an error of 20 moves the offset by 5. -/
theorem test_slew : (active.takeSample 1000020).air.offset = 1000005#32 := by decide +kernel

/-- Section 9.4: a tick decreases the counter. -/
theorem test_tick :
    (after .tenMillisecondTick { active with air := { active.air with tickDue := true } }).policy.keepaliveCounter = 2 := by
  decide +kernel

/-- Section 9.4: the expiry returns the part to STANDBY. -/
theorem test_keepalive_expiry :
    (after .keepaliveExpiry { active with
      air := { active.air with tickDue := true }
      policy := { active.policy with keepaliveCounter := 1 } }).policy.mode = .standby := by decide +kernel

/-! ### Chapter 3 -/

/-- Section 3.3: the fourth in-tolerance period locks. -/
theorem test_lock :
    (after (.mainsEdge true) { active with
      air := { active.air with airTime := 200070 }
      tracker := { active.tracker with
        edgeMode := .rising, lockState := .locking, lockCount := 3, ref := some 180050, period := some 20007
        lastAccepted := some 180050 } }).tracker.lockState = .locked := by decide +kernel

/-- R31: an edge 1,200 microseconds after the last is a glitch. -/
theorem test_glitch :
    (after (.mainsEdge false) { active with
      air := { active.air with airTime := 3001200 }
      tracker := { active.tracker with lastAccepted := some 3000000 } }).counter .glitch = 1 := by decide +kernel

/-- R38: the lock expiry supplies a reference one period on. -/
theorem test_lock_expiry :
    (after .lockExpiry { active with air := { active.air with airTime := 3030000 } }).tracker.ref = some 3020000#32 := by
  decide +kernel

/-- R39: a coast past its limit is lost. -/
theorem test_coast_expiry :
    (after .coastExpiry { active with
      air := { active.air with airTime := 3030000 }
      tracker := { active.tracker with lockState := .coasting, coastCount := 3 } }).tracker.lockState = .lost := by
  decide +kernel

/-- Section 3.4: bins at P = 20,000. -/
theorem test_bins : [0, 5312, 5313, 9999].map (binOf 20000) = [0, 16, 17, 31] := by decide

/-! ### Chapters 4 and 5 -/

/-- Section 4.4: a span across the end of the cycle, and one that comes round. -/
theorem test_spans :
    ((Phase.mk 1000000 20000).span 1019500 1000, (Phase.mk 1000000 20000).span 1000100 19950) =
      ({ first := 62, count := 4 }, { first := 0, count := 64 }) := by decide +kernel

/-- Section 5.4: the evidence of a sweep with slices 2 and 3 hit. -/
theorem test_spectral_fold :
    (after .spectralFold (inFold (.spectral sweep))).map.requests =
      [.evidence { span := { first := 16, count := 2 }, slice0 := some (.fall 3), slice1 := some (.fall 3)
                   slice2 := some (.rise 2), slice3 := some (.rise 2) } true] := by decide +kernel

/-- R62: a foreign beacon with an airtime of 128 microseconds started that long before its end. -/
theorem test_receive_fold :
    (after .receiveFold (inFold (.receive (frame .foreignBeacon)))).schedule.requests =
      [.update { address := 7, interval := 100, start := 3004872, airtime := some 128 } true] := by decide +kernel

/-- R63: a failure raises the cells of its slices. -/
theorem test_completion_fold :
    (after .completionFold (inFold (.completion
      { outcome := .failure, start := 3005000, airtime := 128, slices := .low }))).map.requests =
      [.evidence { span := { first := 16, count := 1 }, slice0 := some (.rise 2), slice1 := some (.rise 2)
                   slice2 := none, slice3 := none } true] := by decide +kernel

/-- Section 5.2: Rise with shift 2 from 0 is 64, and Fall with shift 7 from 1 is 0. -/
theorem test_scores : (riseScore 0 2, riseScore 64 2, fallScore 1 7, riseScore 254 7) = (64, 112, 0, 255) := by decide

theorem test_evidence :
    scoreAt (after .evidence { active with map := { OccupancyMap.reset with
      requests := [.evidence (uniformEvidence (Span.run 63 0) .low (.rise 2)) false] } }).map.cells 0 1 = 64 := by
  decide +kernel

/-- Section 5.5: the pass at age shift 2 takes 200 to 150. -/
theorem test_age :
    scoreAt (after .age { active with map := { OccupancyMap.reset with
      cells := oven, cycleAge := 2, settings := { hotLevel := 255, agePeriod := 3, ageShift := 2 }
      requests := [.age] } }).map.cells 0 0 = 150 := by decide +kernel

theorem test_map_clear :
    (after .mapClear { active with map := { OccupancyMap.reset with
      cells := oven, requests := [.clear, .age] } }).map.requests = [.age, .snapshot] := by decide +kernel

/-- R82: a hot level of 200 finds 128 hot cells and sets MAP_HOT. -/
theorem test_map_settings :
    (after .mapSettings { active with map := { OccupancyMap.reset with
      cells := oven, requests := [.settings { hotLevel := 200, agePeriod := 0, ageShift := 1 }] } }).report.flags =
      0x0200#16 := by decide +kernel

/-- R79: the sequence wraps from 255. -/
theorem test_snapshot :
    (after .snapshot { active with map := { OccupancyMap.reset with
      sequence := 255, requests := [.snapshot] } }).map.sequence = 0 := by decide +kernel

/-! ### Chapter 6 -/

/-- Section 6.2: a beacon 20 microseconds early moves the anchor by a quarter of that. -/
theorem test_match :
    ((after .beaconUpdate { active with
      air := { active.air with airTime := 1614800 }
      schedule := { tableWith beaconer with
        requests := [.update { address := 7, interval := 100, start := 1614385, airtime := none } false] } }).schedule.slots[0]).map
      Neighbour.anchor = some 1614400#32 := by decide +kernel

/-- R89: an interval of 15 is out of range. -/
theorem test_interval_range :
    (after .beaconUpdate { active with schedule := { tableWith beaconer with
      requests := [.update { address := 7, interval := 15, start := 0, airtime := none } false] } }).counter .intervalRange =
      1 := by decide +kernel

theorem test_miss_expiry :
    (after (.missExpiry 0) { active with schedule := tableWith beaconer }).schedule.requests = [.expiry 0 7] := by
  decide +kernel

/-- R96: a missed beacon takes 2 from the confidence. -/
theorem test_missed_beacon :
    ((after .missedBeacon { active with
      air := { active.air with airTime := 1614917 }
      schedule := { tableWith beaconer with requests := [.expiry 0 7] } }).schedule.slots[0]).map Neighbour.confidence =
      some 1 := by decide +kernel

/-- R19, R18: a miss expiry armed exactly 2^31 microseconds ahead is not after Air Time, and is taken at once; one microsecond
less, and it is armed. -/
theorem test_miss_expiry_at_arming :
    [0x7FFFFFFF, 0x80000000].map (fun n => ({ active with schedule := tableWith beaconer } : State).armSlot 0
      { beaconer with anchor := active.air.airTime + n - 102912 } |>.schedule.requests) = [[], [.expiry 0 7]] := by
  decide +kernel

theorem test_neighbour_clear :
    (after .neighbourClear { active with schedule := { tableWith beaconer with
      requests := [.clear] } }).schedule.slots[0] = none := by decide +kernel

/-- R100: a new tolerance re-arms the expiry. -/
theorem test_neighbour_settings :
    ((after .neighbourSettings { active with
      air := { active.air with airTime := 1600000 }
      schedule := { tableWith beaconer with
        requests := [.settings { tolerance := 64, guardBefore := 0, guardAfter := 0, protect := 1 }] } }).schedule.slots[0]).map
      Neighbour.expiry = some 1614469#32 := by decide +kernel

/-- Section 6.4: the window around the beacon at 1,614,405 blocks from its guard before to its guard after. -/
theorem test_windows :
    [1614204, 1614205, 1614904, 1614905].map (fun a => beaconer.blocks (tableWith beaconer).settings 0 1600000 a 1) =
      [false, true, true, false] := by decide +kernel

/-! ### Chapters 7 and 8 -/

/-- Section 7.2: airtimes of the example. -/
theorem test_airtime :
    (airtimeOf 36 active.policy.rates 1500 7 .mhz40, airtimeOf 36 active.policy.rates 1500 7 .mhz20,
      airtimeOf 36 active.policy.rates 1 7 .mhz20, airtimeOf 36 active.policy.rates 1500 3 .mhz20) =
      (some 128, some 224, some 40, none) := by decide +kernel

/-- Section 7.6, the first search example: deferred to bin 32 at 3,010,000, written as 4,010,000. -/
theorem test_search :
    (let v := ({ active with map := { OccupancyMap.reset with cells := oven } } : State).beginView 9 queued 3005000
     (v.verdict.decision, v.verdict.reason, v.verdict.notBefore)) = (.defer, .shaped, some 4010000#32) := by
  decide +kernel

/-- R123: a clear start opens the entry as planned. -/
theorem test_admission_result :
    (after .admissionResult { active with
      admission := { relief := 2, inProgress := some (active.beginView 9 queued 3005000) }
      bus := { active.bus with service := some (.descriptors [] []) } }).rewriter.entries.map PendingEntry.plannedEnd =
      [3005328#32] := by decide +kernel

/-- R137, R18: a stale expiry exactly 2^31 microseconds ahead is not after Air Time, and is taken at the opening. -/
theorem test_stale_at_opening :
    [0x7FFFFFFF, 0x80000000].map (fun n =>
      (active.openEntry { entryFor 9 with expiry := active.air.airTime + n }).counter .stale) = [0, 1] := by decide +kernel

/-- R136: an untracked completion is coded PASS/UNTRACKED. -/
theorem test_untracked :
    (after (.completionCandidate 0x020130 .next) (writing [(some 9, { data := 3, enables := 0xF })])).bus.mPort.map Forwarded.words =
      some [{ data := 0x09000003, enables := 0xF }] := by decide +kernel

/-- R141: a matched deferral is coded DEFER/SHAPED. -/
theorem test_matched :
    (after (.completionCandidate 0x020130 .next) { writing [(some 9, { data := 3, enables := 0xF })] with
      rewriter := { entries := [entryFor 9] } }).bus.mPort.map Forwarded.words =
      some [{ data := 0x88000003, enables := 0xF }] := by decide +kernel

theorem test_abandonment :
    (after (.possibleAbandonment 0x020120 (blank 8)) { active with
      rewriter := { entries := [entryFor 8, entryFor 9] } }).rewriter.entries.map PendingEntry.index = [8] := by
  decide +kernel

theorem test_stale_expiry :
    (after (.staleExpiry 9) { active with
      air := { active.air with airTime := 3015128 }, rewriter := { entries := [entryFor 9] } }).counter .stale = 1 := by
  decide +kernel

/-! ### Chapters 9 and 10 -/

theorem test_windows_record :
    (after (.windows free (sealed (recordFrame 1) { zeros with
      w2 := 0x020000, w3 := 0x040000, w4 := 0x050000, w5 := 0x060000
      w6 := 0x04020100 })) { standby with bus := { standby.bus with windows := none } }).bus.windows = some places := by
  decide +kernel

/-- Section 9.6: RADIO with width 40 and no secondary position is refused. -/
theorem test_radio_refused :
    (after (.radio free (sealed (recordFrame 2) { zeros with
      high := 0x2806, sequence := 2 })) standby).policy.lastRejectedReason = .secondary := by decide +kernel

theorem test_radio_accepted :
    (after (.radio free (sealed (recordFrame 2) { zeros with
      high := 0x2806, w2 := 0x00280F01, w3 := 200 })) standby).policy.radio =
      { channel := some 6, width := .mhz40, secondary := .above, preamble := 16, latency := 40, access := 200 } := by
  decide +kernel

theorem test_rates_low :
    (after (.ratesLow free (sealed (recordFrame 3) { zeros with high := 24, w2 := 0 })) standby).policy.rates.entry 0 .mhz20 =
      24 := by decide +kernel

/-- Value 1 of RATES-HIGH: bits 27..31 of word 1 and 0..5 of word 2, code 8 at 40 MHz. -/
theorem test_rates_high :
    (after (.ratesHigh free (sealed (recordFrame 4) { zeros with
      high := 0x8000, w2 := 1 })) standby).policy.rates.entry 8 .mhz40 = 48 := by decide +kernel

theorem test_mains :
    (after (.mains free (sealed (recordFrame 5) { zeros with w2 := 3 })) standby).tracker =
      { Tracker.reset with edgeMode := .both, lockState := .seeking } := by decide +kernel

theorem test_map :
    (after (.map free (sealed (recordFrame 6) { zeros with w3 := 0x05800000, w4 := 2 })) standby).map.requests =
      [.settings { hotLevel := 128, agePeriod := 5, ageShift := 2 }] := by decide +kernel

theorem test_neighbour :
    (after (.neighbour free (sealed (recordFrame 7) { zeros with w2 := 0x00C80014 })) standby).schedule.requests =
      [.settings { tolerance := 64, guardBefore := 200, guardAfter := 0, protect := 1 }] := by decide +kernel

theorem test_shaping :
    (after (.shaping free (sealed (recordFrame 8) { zeros with w3 := 0x03E80000, w4 := 2 })) standby).report.win =
      { lead := 1000, activeLow := false, enable := true, neighbourOption := false } := by decide +kernel

theorem test_refresh :
    (after (.keepaliveRefresh free (sealed (keepaliveFrame 0x5AC3) { zeros with w2 := 0x00030000 })) standby).policy.mode =
      .active := by decide +kernel

theorem test_release :
    (after (.keepaliveRelease free (sealed (keepaliveFrame 0) zeros)) active).policy.mode = .standby := by decide +kernel

theorem test_keepalive_value :
    (after (.keepaliveValue free 1 (sealed (keepaliveFrame 1) zeros)) active).policy.lastRejectedReason =
      .keepaliveValue := by decide +kernel

theorem test_unknown_kind :
    (after (.unknownKind free 13 (sealed (recordFrame 13) zeros)) standby).policy.lastRejectedReason = .unknownKind := by
  decide +kernel

/-- R167: a mask that holds flag 0 clears the flag of the acknowledgement itself. -/
theorem test_acknowledge :
    (after (.acknowledge free (sealed (recordFrame 10) { zeros with w2 := 0x00400001 })) standby).word6 = 0x00400000#32 := by
  decide +kernel

theorem test_clear_map :
    (after (.clearMap free (sealed (clearFrame 0) zeros)) standby).map.requests = [.clear] := by decide +kernel

theorem test_clear_neighbours :
    (after (.clearNeighbours free (sealed (clearFrame 1) zeros)) standby).schedule.requests = [.clear] := by decide +kernel

theorem test_clear_counters :
    (after (.clearCounters free (sealed (clearFrame 2) zeros)) (standby.count .glitch)).counter .glitch = 0 := by
  decide +kernel

theorem test_restart :
    (after (.restart free (sealed (recordFrame 12) { zeros with sequence := 5 })) active).word8 = 0x0C000500#32 := by
  decide +kernel

/-- Section 10.5: with a lead of 1,000 and bins 0..31 hot, WIN is active from 1,000 microseconds before bin 0. -/
theorem test_win :
    [3018999, 3019000, 3009999, 3010000].map (fun t => ({ active with
      air := { active.air with airTime := t }
      map := { OccupancyMap.reset with cells := oven, settings := { hotLevel := 128, agePeriod := 0, ageShift := 1 } }
      report := { active.report with win := { lead := 1000, activeLow := false, enable := true
                                              neighbourOption := false } } } : State).winActive) =
      [false, true, true, false] := by decide +kernel

/-! ### Witnesses: concrete states and operands that meet the hypotheses of each statement, clause by clause -/

/-- Every command answers. -/
theorem exec_after (c : Instr) (s : State) : exec c s = .next (after c s) := by
  obtain ⟨u, h⟩ := exec_answers c s
  simp [after, h]

/-- The only entry of a table with one. -/
theorem tableWith_slot (e : Neighbour) (i : Fin 8) (x : Neighbour) (h : (tableWith e).slots[i] = some x) : i = 0 ∧ x = e := by
  fin_cases i <;> simp_all [tableWith]

/-- An empty table has no entry. -/
theorem reset_slot (i : Fin 8) (x : Neighbour) : State.reset.schedule.slots[i] ≠ some x := by
  simp [State.reset, Schedule.reset]

theorem witness_StepTakesTheFrontCommand :
    ({ active with pending := [.age, .snapshot] } : State).pending = .age :: [.snapshot] ∧ active.pending = [] := by decide

theorem witness_AttnFollowsFlagsAndEnables : exec .pinReset active = .next (after .pinReset active) := exec_after _ _

/-- A state whose WIN settings are given, one neighbour TRACKED. -/
def withWin (low reset : Bool) : State :=
  { active with
    schedule := tableWith beaconer
    report := { active.report with win := { lead := 4095, activeLow := low, enable := true, neighbourOption := true } }
    bus := { active.bus with resetAsserted := reset } }

theorem witness_WinFollowsItsConditions (low reset : Bool) :
    ∃ t, exec .lockExpiry (withWin low reset) = .next t ∧
      (∀ i : Fin 8, ∀ e, t.schedule.slots[i] = some e → 1 ≤ e.interval) ∧ (∀ p, t.tracker.period = some p → 1 ≤ p) ∧
      t.bus.resetAsserted = reset ∧ t.report.win.activeLow = low := by
  refine ⟨_, exec_after _ _, ?_, ?_, ?_, ?_⟩
  · intro i e h
    have := tableWith_slot beaconer i e (by cases low <;> cases reset <;> exact h)
    simp [this.2, beaconer]
  · intro p h
    have : p = 20000 := by cases low <;> cases reset <;> cases h <;> rfl
    omega
  · cases low <;> cases reset <;> rfl
  · cases low <;> cases reset <;> rfl

/-- A TX-DMA read in service with one descriptor left and one word behind. -/
def reading (v : Option AdmissionView) : State :=
  { active with
    admission := { relief := 2, inProgress := v }
    bus := { active.bus with service := some (.descriptors [.whole 9 queued] [.stored [5]]) } }

theorem witness_PinResetReturnsEveryBlock :
    active.bus.service = none ∧
    ({ standby with bus := { standby.bus with service := some (.report [(0x060000, 7)]) } } : State).bus.service =
      some (.report [(0x060000, 7)]) ∧
    (reading none).bus.service = some (.descriptors [.whole 9 queued] [.stored [5]]) ∧
    (reading none).admission.inProgress = none ∧
    (reading (some (active.beginView 8 queued 3005000))).bus.service =
      some (.descriptors [.whole 9 queued] [.stored [5]]) ∧
    (reading (some (active.beginView 8 queued 3005000))).admission.inProgress =
      some (active.beginView 8 queued 3005000) ∧
    (writing [(some 9, { data := 3, enables := 0xF })]).bus.service =
      some (.completions [(some 9, { data := 3, enables := 0xF })]) ∧
    (writing [(some 9, { data := 3, enables := 0xF })]).bus.mPort =
      some { write := true, tag := .txDma, addr := 0x020130, length := 1, words := [] } ∧
    (intaking .partly active).bus.service = some (.records 3004990 [(some .partly, { data := 3, enables := 0xF }),
      (none, { data := 4, enables := 0xF }), (some .partly, { data := 5, enables := 0xF })]) ∧
    (intaking .partly active).bus.mPort =
      some { write := true, tag := .rxDma, addr := 0x0403E0, length := 6, words := blank 3 } :=
  ⟨rfl, rfl, rfl, rfl, rfl, rfl, rfl, rfl, rfl, rfl⟩

theorem witness_ReleaseAndTheMicrosecond :
    (after .pinReset active).bus.resetAsserted = true ∧ active.bus.resetAsserted = false ∧
      NothingDue { active with air := { active.air with airTime := 3029999 } } := by
  refine ⟨rfl, rfl, rfl, ?_, ?_, ?_⟩
  · intro t h
    cases h
    decide
  · intro i e h
    exact absurd h (reset_slot i e)
  · intro e h
    cases h

/-- A state with a tick raised, in a mode with a keep-alive counter. -/
def ticking (m : Mode) (n : Nat) : State :=
  { active with
    air := { active.air with airTime := 3010000, tickDue := true }
    policy := { active.policy with mode := m, keepaliveCounter := n } }

theorem witness_TickRunsTheKeepalive :
    (ticking .active 2).air.tickDue = true ∧ (ticking .active 2).policy.mode = .active ∧
    2 ≤ (ticking .active 2).policy.keepaliveCounter ∧ (ticking .active 1).policy.keepaliveCounter = 1 ∧
    (ticking .standby 0).policy.mode ≠ .active := by decide

theorem witness_InWindowSampleSlewsTheOffset :
    active.air.aligned = true ∧
    ([1000032, 999968, 1000003, 999997, 2148483648, 1000033, 999967] : List Word).map
      (fun x => (x - active.air.offset).toInt) = [32, -32, 3, -3, -2147483648, 33, -33] ∧
    active.air.outlierRun < 3 ∧ ({ active.air with outlierRun := 3 } : AirTimeUnit).outlierRun = 3 := by decide

theorem witness_FirstSampleAlignsAndOutliersStep :
    standby.air.aligned = false ∧ active.air.aligned = true ∧
    ([1000033, 999967] : List Word).map (fun x => (x - active.air.offset).toInt) = [33, -33] ∧
    active.air.outlierRun < 3 ∧ ({ active.air with outlierRun := 3 } : AirTimeUnit).outlierRun = 3 ∧
    ({ inFold (.receive (frame .ownData)) with intake := { (inFold (.receive (frame .ownData))).intake with
      fold := none } } : State).intake.fold = none ∧
    (inFold (.receive (frame .ownData))).intake.fifo =
      { body := .receive (frame .ownData), voidMap := false, voidNeighbour := false } :: [] := by decide

theorem witness_WritesReachMemoryAsTheyArrived :
    active.bus.service = none ∧
    (writing [(some 9, { data := 3, enables := 0xF }), (none, { data := 4, enables := 0xF })]).bus.service =
      some (.completions ((some 9, { data := 3, enables := 0xF }) :: [(none, { data := 4, enables := 0xF })])) ∧
    (writing [(some 9, { data := 3, enables := 0xF }), (none, { data := 4, enables := 0xF })]).bus.mPort =
      some { write := true, tag := .txDma, addr := 0x020130, length := 2, words := [] } ∧
    (after (.transfer (.write .rxDma 0x0403E0 (blank 4))) active).bus.service =
      some (.records active.air.airTime [(some (.receive 62 0 0 0 0), { data := 0, enables := 0xF })]) ∧
    (intaking .partly active).bus.service = some (.records 3004990 ((some .partly, { data := 3, enables := 0xF }) ::
      [(none, { data := 4, enables := 0xF }), (some .partly, { data := 5, enables := 0xF })])) ∧
    (intaking .partly active).bus.mPort =
      some { write := true, tag := .rxDma, addr := 0x0403E0, length := 6, words := blank 3 } :=
  ⟨rfl, rfl, rfl, by decide +kernel, rfl, rfl⟩

theorem witness_OtherTransfersPassThrough :
    active.bus.service = none ∧ active.admission.inProgress = none ∧ State.reset.bus.observing = false ∧
    (∀ w i, active.bus.windows = some w → i < 4 → w.inReport ((0x05FFF0 : Addr).toNat + 4 * i) = false) ∧
    (∀ w i, active.bus.windows = some w → i < 4 → w.tx.holds 32 ((0x022000 : Addr).toNat + 4 * i) = false) ∧
    State.reset.policy.mode = .unconfigured ∧
    (∀ w i a, active.bus.windows = some w → (blank 2)[i]? = some a → w.tx.holds 32 ((0x020010 : Addr).toNat + 4 * i) = true →
      ((0x020010 : Addr).toNat + 4 * i - w.tx.base) % 32 / 4 = 4 → a.enables.getLsbD 0 = false ∨ a.data.getLsbD 1 = false) ∧
    (reading none).bus.service ≠ none := by
  refine ⟨rfl, rfl, rfl, ?_, ?_, rfl, ?_, by decide⟩
  · intro w i h hi
    cases h
    interval_cases i <;> decide
  · intro w i h hi
    cases h
    interval_cases i <;> decide
  · intro w i a h ha
    match i, ha with
    | 0, ha => cases ha; simp
    | 1, ha => cases ha; simp
    | n + 2, ha => simp [blank] at ha

theorem witness_ReportReadIsTakenAndDelivered :
    standby.bus.service = none ∧ standby.bus.observing = true ∧ standby.bus.windows = some places ∧ 15 < (List.replicate 16 (0 : Word)).length ∧
    places.inReport ((0x05FFC4 : Addr).toNat + 4 * 15) = true ∧ places.inReport ((0x05FFC4 : Addr).toNat + 4 * 14) = false ∧
    ({ standby with bus := { standby.bus with service := some (.report ((0x0601FC, 7) :: [])) } } : State).bus.service =
      some (.report ((0x0601FC, 7) :: [])) ∧
    ({ standby with bus := { standby.bus with service := some (.report [(0x05FFFC, 7), (0x060000, 8)]) } } : State).bus.service =
      some (.report ((0x05FFFC, 7) :: [(0x060000, 8)])) ∧
    ({ standby with map := { standby.map with requests := [.snapshot, .age] } } : State).map.requests = .snapshot :: [.age] := by
  decide

theorem witness_ReportWordLayout : (tableWith beaconer).slots[0] = some beaconer ∧ (tableWith beaconer).slots[7] = none := by
  decide

/-- A FIFO of `n` entries behind a fold in hand. -/
def holding (n : Nat) : State :=
  { active with intake :=
    { fifo := List.replicate n { body := .receive (frame .ownData), voidMap := false, voidNeighbour := false }
      fold := some folding, lastSequence := none } }

theorem witness_ReceiveRecordIsTakenIn :
    (active.bus.service = none ∧ active.bus.observing = true ∧ active.bus.windows = some places ∧
      active.policy.mode ≠ .unconfigured) ∧
    places.rx.base ≤ (0x0403F0 : Addr).toNat ∧ ((0x0403F0 : Addr).toNat - places.rx.base) % 16 = 0 ∧
    (0x0403F0 : Addr).toNat + 16 ≤ places.rx.base + 16 * places.rx.count ∧ (0x0403F0 : Addr).toNat + 16 ≤ 16777216 ∧
    (∀ s r, NextRecord r 3004990 { write := true, tag := .rxDma, addr := 0x0403E0, length := 6, words := blank 3 }
      { data := 3, enables := 0xF } [{ data := 4, enables := 0xF }] [(some .partly, { data := 5, enables := 0xF })]
      (intaking r s)) ∧
    5 ≤ ((0x000A0000 : Word).extractLsb' 17 3).toNat ∧
    (FrameKind.corrupted, ((0x00080000 : Word).extractLsb' 17 3).toNat) ∈
      [(FrameKind.ownData, 0), (.ownOther, 1), (.foreignBeacon, 2), (.foreignOther, 3), (.corrupted, 4)] ∧
    8 ≤ (holding 8).intake.fifo.length ∧ (holding 7).intake.fifo.length < 8 ∧ (holding 7).intake.fold ≠ none ∧
    active.intake.fold = none ∧ active.intake.fifo = [] := by
  refine ⟨by decide, by decide, by decide, by decide, by decide, ?_, by decide, by decide, by decide, by decide, by decide,
    by decide, by decide⟩
  intro s r
  exact ⟨rfl, rfl, by simp⟩

/-- Taking of a write whose last word begins record 63, and of one in UNCONFIGURED; the records of a write in service are those
of witness_ReceiveRecordIsTakenIn. -/
theorem witness_SpectralRecordIsTakenIn :
    (active.bus.service = none ∧ active.bus.observing = true ∧ active.bus.windows = some places ∧ places.Legal ∧
      active.policy.mode ≠ .unconfigured ∧ (0x0403EC : Addr).toNat % 4 = 0) ∧
    (∃ mark : Nat → Option IntakeRecord, RecordMarks places 0x0403EC (blank 2) mark ∧ (0 : Nat) ≤ (blank 2).length ∧
      (∀ j, j < 0 → mark j = none) ∧ mark 0 = some .partly ∧ mark 1 = some .partly) ∧
    ((0x14060000 : Word).extractLsb' 0 16).toNat = 0 ∧
    (((0x15060001 : Word).extractLsb' 24 8).toNat ≠ 20 ∧ ((0x15060001 : Word).extractLsb' 24 8).toNat ≠ 40) ∧
    (Width.mhz40, ((0x28060001 : Word).extractLsb' 24 8).toNat) ∈ [(Width.mhz20, 20), (.mhz40, 40)] ∧
    1 ≤ ((0x28060001 : Word).extractLsb' 0 16).toNat ∧ 8 ≤ (holding 8).intake.fifo.length ∧
    (holding 7).intake.fifo.length < 8 ∧ (holding 7).intake.fold ≠ none ∧ active.intake.fold = none ∧
    active.intake.fifo = [] ∧ State.reset.policy.mode = .unconfigured ∧ State.reset.bus.service = none := by
  refine ⟨⟨rfl, rfl, rfl, places_legal, by decide, by decide⟩, ⟨fun _ => some .partly, ?_, by decide, by simp, rfl, rfl⟩,
    by decide, by decide, by decide, by decide, by decide, by decide, by decide, rfl, rfl, rfl, rfl⟩
  intro j hj
  have hj : j < 2 := hj
  interval_cases j
  · refine ⟨fun _ => ⟨.partly, rfl, ?_, fun _ => rfl⟩, fun h => absurd h (by decide), fun h => absurd h (by decide)⟩
    rintro ds ⟨-, h4, h5, -⟩
    omega
  · refine ⟨fun _ => ⟨.partly, rfl, ?_, fun _ => rfl⟩, fun h => absurd h (by decide), fun h => absurd h (by decide)⟩
    rintro ds ⟨h3, -⟩
    exact absurd h3 (by decide)

/-- A write of one whole receive-status record, the last of the ring, and a word past its end: one mark. -/
theorem witness_SpectralRecordIsTakenIn_whole : ∃ mark : Nat → Option IntakeRecord,
    RecordMarks places 0x0403F0 (blank 5) mark ∧ 3 ≤ (blank 5).length ∧ (∀ j, j < 3 → mark j = none) ∧
      mark 3 = some (.receive 63 0 0 0 0) := by
  refine ⟨fun j => if j = 3 then some (.receive 63 0 0 0 0) else none, ?_, by decide, ?_, rfl⟩
  · intro j hj
    have hj : j < 5 := hj
    interval_cases j
    · exact ⟨fun _ => rfl, fun h => absurd h (by decide), fun h => absurd h (by decide)⟩
    · exact ⟨fun _ => rfl, fun h => absurd h (by decide), fun h => absurd h (by decide)⟩
    · exact ⟨fun _ => rfl, fun h => absurd h (by decide), fun h => absurd h (by decide)⟩
    · refine ⟨fun _ => ⟨_, rfl, ?_, ?_⟩, fun h => absurd h (by decide), fun h => absurd h (by decide)⟩
      · rintro ds ⟨-, h4, -, h6⟩
        have h4 : ds.length = 4 := by omega
        match ds, h4 with
        | [a, b, c, d], _ =>
          simp [blank] at h6
          obtain ⟨rfl, rfl, rfl, rfl⟩ := h6
          exact ⟨rfl, by decide⟩
      · intro h
        exact absurd ⟨by decide, by decide, by decide, by decide⟩ (h [0, 0, 0, 0])
    · exact ⟨fun h => absurd h (by decide), fun h => absurd h (by decide), fun _ _ => rfl⟩
  · intro j hj
    have : j ≠ 3 := by omega
    simp [this]

/-- A TX-DMA read in service behind a held descriptor, whose next segment is given, with words outside the ring behind it. -/
def returning (g : Segment) : State :=
  { active with
    admission := { relief := 2, inProgress := some (active.beginView 8 queued 3005000) }
    bus := { active.bus with
      service := some (.descriptors [g, .outside [6], .outside [7, 8], .whole 10 queued] [.stored [5]]) } }

theorem witness_DescriptorReadIsTakenAndKept :
    active.bus.service = none ∧ active.admission.inProgress = none ∧ active.bus.observing = true ∧
    active.bus.windows = some places ∧ [queued, queued].length = 2 ∧ places.tx.base ≤ (0x021FC0 : Addr).toNat ∧
    ((0x021FC0 : Addr).toNat - places.tx.base) % 32 = 0 ∧
    (0x021FC0 : Addr).toNat + 32 * [queued, queued].length ≤ places.tx.base + 32 * places.tx.count ∧
    (0x021FC0 : Addr).toNat + 32 * [queued, queued].length ≤ 16777216 ∧
    (2 < (List.replicate 16 (0 : Word)).length ∧ places.tx.holds 32 ((0x01FFF8 : Addr).toNat + 4 * 2) = true) ∧
    (∀ g ∈ [Segment.whole 9 queued, .partly [1, 2]], (returning g).admission.inProgress ≠ none ∧
      (returning g).bus.service =
        some (.descriptors (g :: ([[6], [7, 8]].map Segment.outside ++ [.whole 10 queued])) [.stored [5]])) ∧
    (∀ x, [Segment.whole 10 queued].head? ≠ some (.outside x)) := by
  refine ⟨rfl, rfl, rfl, rfl, rfl, by decide, by decide, by decide, by decide, by decide, ?_, by simp⟩
  intro g _
  exact ⟨by simp [returning], rfl⟩

/-- A TX-DMA read in service whose next segment is given, with pending entries. -/
def fetching (g : Segment) (entries : List PendingEntry) : State :=
  { active with
    rewriter := { entries := entries }
    bus := { active.bus with service := some (.descriptors [g, .outside [6], .whole 10 queued] []) } }

theorem witness_DescriptorReturns :
    (fetching (.whole 9 queued) []).admission.inProgress = none ∧
    (fetching (.whole 9 queued) []).bus.service =
      some (.descriptors (.whole 9 queued :: ([[6]].map Segment.outside ++ [.whole 10 queued])) []) ∧
    (∀ x, [Segment.whole 10 queued].head? ≠ some (.outside x)) ∧
    (({ queued with w4 := 0 } : Words8).w4.getLsbD 0 = false ∧ ({ queued with w4 := 3 } : Words8).w4.getLsbD 1 = true) ∧
    (fetching (.whole 9 queued) []).policy.mode = .active ∧ queued.w4.getLsbD 0 = true ∧ queued.w4.getLsbD 1 = false ∧
    (fetching (.whole 9 queued) [entryFor 9]).rewriter.entries.find? (fun e => e.index == 9) = some (entryFor 9) ∧
    (entryFor 9).fingerprint = queued.fingerprint ∧
    (∀ e ∈ [entryFor 9], e.index = 9 → e.fingerprint ≠ ({ queued with w2 := 5 } : Words8).fingerprint) ∧
    (fetching (.partly [1, 2]) []).bus.service =
      some (.descriptors (.partly [1, 2] :: ([[6]].map Segment.outside ++ [.whole 10 queued])) []) := by
  refine ⟨rfl, rfl, by simp, by decide, rfl, by decide, by decide, by decide, by decide, by decide, rfl⟩

theorem witness_AirtimeOfAFrame :
    (1 ≤ 1500 ∧ 8 * 1500 + 22 ≤ 23 * active.policy.rates.entry 7 .mhz40 ∧
      (23 - 1) * active.policy.rates.entry 7 .mhz40 < 8 * 1500 + 22) ∧
    1 ≤ active.policy.rates.entry 7 .mhz20 ∧ 16 ≤ 16 ∧
    airtimeOf 16 active.policy.rates 1 7 .mhz20 = some 20 := by decide

/-- An admission of a descriptor with a not-before time and flags. -/
def judging (word1 notBefore : Word) (s : State) : AdmissionView :=
  s.beginView 9 { queued with w1 := word1, w2 := notBefore } 3005000

theorem witness_StartEstimate :
    (judging 0x000D75DC 0 active).frame.notBefore = 0#32 ∧
    (∀ nb, (judging 0x000D75DC nb active).frame.notBefore = nb) ∧
    ((5005001 : Word) ≠ 0#32 ∧ (4005199 : Word) ≠ 0#32 ∧ (4005200 : Word) ≠ 0#32 ∧ (5005000 : Word) ≠ 0#32) ∧
    active.air.offset = 1000000 ∧ ((5005001 : Word) - 1000000 - 3005000).toInt = 1000001 ∧
    ((5005000 : Word) - 1000000 - 3005000).toInt = 1000000 ∧ ((4005199 : Word) - 1000000 - 3005000).toInt = 199 ∧
    ((4005200 : Word) - 1000000 - 3005000).toInt = 200 ∧
    active.policy.radio.access = 200 ∧ (judging 0x000D75DC 0 standby).aligned = false ∧
    (judging 0x000D75DC 0 active).aligned = true ∧
    (judging 0x000D75DC 4005200 active).startEstimate = .at 3005200 ∧
    (judging 0x000D75DC 5005001 active).startEstimate = .far 4005001 := by
  refine ⟨rfl, fun _ => rfl, by simp, rfl, by simp, by simp, by simp, by simp, ?_, ?_, ?_, ?_, ?_⟩
  · rfl
  · rfl
  · rfl
  · decide +kernel
  · decide +kernel

/-- ACTIVE with the oven's map and one neighbour TRACKED. -/
def shaped : State :=
  { active with
    map := { OccupancyMap.reset with cells := oven }
    schedule := tableWith { beaconer with anchor := 3010200, airtime := 100 } }

theorem witness_CheckOfAStart :
    (judging 0x000D75DC 0 shaped).airtimeAt .mhz40 = some 128 ∧
    (∀ i : Fin 8, ∀ e, (judging 0x000D75DC 0 shaped).slots[i] = some e → 1 ≤ e.interval) ∧
    (∀ ph, (judging 0x000D75DC 0 shaped).phase = some ph →
      15000 ≤ ph.period ∧ ph.period ≤ 22000 ∧ ((3010000 : Time) - ph.ref).toInt + 128 ≤ 2147483648) := by
  refine ⟨by decide, ?_, ?_⟩
  · intro i e h
    simp [(tableWith_slot _ i e h).2, beaconer]
  · intro ph h
    cases h
    decide

theorem witness_AdmissionLadder :
    (judging 0x000F75DC 0 shaped).frame.pinned = true ∧ (judging 0x000D75DC 0 shaped).frame.pinned = false ∧
    (judging 0x000D75DC 0 standby).aligned = false ∧ (judging 0x000D75DC 0 shaped).aligned = true ∧
    (judging 0x000D7000 0 shaped).airtimeAt .mhz40 = none ∧
    (judging 0x000D75DC 5005001 shaped).startEstimate = .far 4005001 ∧
    (judging 0x000D75DC 4011000 shaped).startEstimate = .at 3011000 ∧
    (judging 0x000D75DC 4011000 shaped).check 3011000 .mhz40 = true ∧
    (judging 0x000D75DC 0 shaped).startEstimate = .at 3005200 ∧
    (judging 0x000D75DC 0 shaped).check 3005200 .mhz40 = false ∧
    (judging 0x000D75DC 0 shaped).check 3005200 .mhz20 = false ∧
    (judging 0x000D75DC 0 shaped).frame.narrowable = true ∧
    (judging 0x000D75DC 0 shaped).rates.d20[(judging 0x000D75DC 0 shaped).frame.rate] ≠ 0 ∧
    (judging 0x000575DC 0 shaped).frame.deferrable = false ∧ (judging 0x000D75DC 0 shaped).frame.deferrable = true ∧
    1 ≤ (judging 0x000D75DC 0 shaped).shaping.holdLimit ∧
    (judging 0x000D75DC 0 { shaped with admission := { relief := 3, inProgress := none } }).relief = 3 ∧
    (judging 0x000D75DC 0 shaped).shaping.reliefCount = 3 ∧
    (judging 0x000D75DC 0 shaped).search 3005200 = some (.defer, 3010400) := by decide +kernel

/-- A frame clear on its primary pair alone, as in the narrowing example of section 7.6. -/
theorem witness_AdmissionLadder_narrow :
    (judging 0x000D75DC 0 { shaped with map := { OccupancyMap.reset with
      cells := Vector.ofFn fun i => if i.val % 4 < 2 then 30 else 200 } }).check 3005200 .mhz40 = false ∧
    (judging 0x000D75DC 0 { shaped with map := { OccupancyMap.reset with
      cells := Vector.ofFn fun i => if i.val % 4 < 2 then 30 else 200 } }).check 3005200 .mhz20 = true := by decide +kernel

theorem witness_SearchCandidates :
    (∀ i : Fin 8, ∀ e, (judging 0x000D75DC 0 shaped).slots[i] = some e → 1 ≤ e.interval) ∧
    (∀ ph, (judging 0x000D75DC 0 shaped).phase = some ph → 64 ≤ ph.period) ∧
    (judging 0x000D75DC 0 shaped).shaping.holdLimit ≤ 16383 := by
  refine ⟨?_, ?_, by decide⟩
  · intro i e h
    simp [(tableWith_slot _ i e h).2, beaconer]
  · intro ph h
    cases h
    decide

theorem witness_SearchFindsTheEarliest : ∃ passes : Width → Nat → Prop, ∀ x o, passes x o ↔
    (judging 0x000D75DC 0 shaped).check (3005200 + BitVec.ofNat 32 o) x = true ∧
      (x = (judging 0x000D75DC 0 shaped).frame.width ∨ (x = .mhz20 ∧ (judging 0x000D75DC 0 shaped).frame.width = .mhz40 ∧
        (judging 0x000D75DC 0 shaped).frame.narrowable = true ∧
        (judging 0x000D75DC 0 shaped).rates.d20[(judging 0x000D75DC 0 shaped).frame.rate] ≠ 0)) :=
  ⟨_, fun _ _ => Iff.rfl⟩

theorem witness_DeferralsAreBounded :
    (judging 0x000D75DC 0 shaped).verdict.decision = .defer ∧ (judging 0x000F75DC 0 shaped).verdict.decision = .pass ∧
    (judging 0x000D75DC 0 { shaped with map := { OccupancyMap.reset with
      cells := Vector.ofFn fun i => if i.val % 4 < 2 then 30 else 200 } }).verdict.decision = .narrow := by decide +kernel

theorem witness_AdmissionEnds :
    (reading (some (active.beginView 8 queued 3005000))).admission.inProgress = some (active.beginView 8 queued 3005000) ∧
    (reading (some (active.beginView 8 queued 3005000))).bus.service =
      some (.descriptors [.whole 9 queued] ([[5]].map Piece.stored)) ∧
    (List.replicate 16 (entryFor 3)).length = 16 := by
  refine ⟨rfl, rfl, by simp⟩

/-- An admission in progress with a descriptor behind it that was kept for the Rewriter, and pending entries. -/
def following (entries : List PendingEntry) (rest : List Segment) (behind : List Piece) : State :=
  { active with
    rewriter := { entries := entries }
    admission := { relief := 2, inProgress := some (active.beginView 8 queued 3005000) }
    bus := { active.bus with service := some (.descriptors rest behind) } }

theorem witness_AdmissionEnds_followed :
    (following [] [.whole 10 queued] [.stored [5], .sampled 9 queued 3004990, .stored [6]]).bus.service =
      some (.descriptors [.whole 10 queued]
        ([[5]].map Piece.stored ++ .sampled 9 queued 3004990 :: [[6]].map Piece.stored)) ∧
    (after .admissionResult (following [entryFor 9] [] [.stored [5]])).rewriter.entries.find? (fun e => e.index == 9) =
      some (entryFor 9) ∧
    (entryFor 9).fingerprint = queued.fingerprint ∧
    (∀ e ∈ (after .admissionResult (following [] [] [.stored [5]])).rewriter.entries,
      e.index = 9 → e.fingerprint ≠ queued.fingerprint) := by
  refine ⟨rfl, by decide +kernel, by decide, by decide +kernel⟩

theorem witness_CompletionIsMatchedOrUntracked :
    active.bus.service = none ∧ active.bus.observing = true ∧ active.bus.windows = some places ∧
    active.policy.mode ≠ .unconfigured ∧
    (writing [(some 255, { data := 2, enables := 1 }), (none, { data := 3, enables := 0xF }),
        (some 256, { data := 2, enables := 1 })]).bus.service =
      some (.completions ((some 255, { data := 2, enables := 1 }) ::
        ([({ data := 3, enables := 0xF } : WriteWord)].map (fun x => (none, x)) ++
          [(some 256, { data := 2, enables := 1 })]))) ∧
    (∀ d m, (d, m) ∈ [(Decision.pass, 0), (.narrow, 1), (.defer, 2), (.narrowDefer, 3)] → m ≤ 3) ∧
    (∀ e ∈ [entryFor 9], e.index ≠ 255) ∧ [entryFor 9, entryFor 255].find? (fun e => e.index == 255) = some (entryFor 255) ∧
    (entryFor 255).airtime ≠ 0 ∧
    ([0x02, 0x12, 0x22, 0x06, 0x0A] : List Word).map (fun w =>
      ((w.extractLsb' 2 2).toNat, (w.extractLsb' 4 4).toNat)) = [(0, 0), (0, 1), (0, 2), (1, 0), (2, 0)] ∧
    8 ≤ (holding 8).intake.fifo.length ∧ (holding 7).intake.fifo.length < 8 ∧ (holding 7).intake.fold ≠ none ∧
    active.intake.fold = none ∧ active.intake.fifo = [] := by
  refine ⟨rfl, rfl, rfl, by decide, rfl, ?_, by decide, by decide, by decide, by decide, by decide, by decide, by decide,
    rfl, rfl⟩
  intro d m h
  simp at h
  omega

/-- A write of sixteen done words over the last two descriptors of the ring: two completions, at words 4 and 12. -/
theorem witness_CompletionIsMatchedOrUntracked_marks :
    ∃ mark : Nat → Option Nat, (∀ j i, mark j = some i ↔ i < places.tx.count ∧
        places.tx.base ≤ (0x021FC0 : Addr).toNat + 4 * j ∧ (0x021FC0 : Addr).toNat + 4 * j < 16777216 ∧
        ((0x021FC0 : Addr).toNat + 4 * j - places.tx.base) / 4 = 8 * i + 4 ∧
        ∃ a, (List.replicate 16 ({ data := 2, enables := 1 } : WriteWord))[j]? = some a ∧ a.enables.getLsbD 0 = true ∧
          a.data.getLsbD 1 = true) ∧
      (∀ j, j < 4 → mark j = none) ∧ mark 4 = some 254 ∧ mark 12 = some 255 := by
  refine ⟨fun j => if j = 4 then some 254 else if j = 12 then some 255 else none, ?_, ?_, rfl, rfl⟩
  · intro j i
    have h : (0x021FC0 : Addr).toNat = 139200 := rfl
    simp only [h, places, List.getElem?_replicate]
    constructor
    · intro h
      split_ifs at h with h1 h2 <;> cases h <;> subst_vars <;> simp
    · rintro ⟨h1, -, -, h2, a, h3, -⟩
      split_ifs at h3 with h4
      have h5 : 2032 + j = 8 * i + 4 := by omega
      rcases (by omega : j = 4 ∧ i = 254 ∨ j = 12 ∧ i = 255) with ⟨rfl, rfl⟩ | ⟨rfl, rfl⟩ <;> rfl
  · intro j hj
    have h1 : j ≠ 4 := by omega
    have h2 : j ≠ 12 := by omega
    simp [h1, h2]

theorem witness_CpuWriteAbandons :
    active.bus.service = none ∧ active.bus.observing = true ∧ active.bus.windows = some places ∧ 255 < places.tx.count ∧
    blank 4 ≠ [] ∧ 4 + (blank 4).length ≤ 8 ∧ (0x021FF0 : Addr).toNat = places.tx.base + 32 * 255 + 4 * 4 ∧
    (0x021FF0 : Addr).toNat + 4 * (blank 4).length ≤ 16777216 ∧ active.policy.mode ≠ .unconfigured ∧
    (0x021FF4 : Addr).toNat = places.tx.base + 32 * 255 + 4 * 5 ∧ 5 + (blank 3).length ≤ 8 ∧
    ({ standby with policy := Policy.reset } : State).policy.mode = .unconfigured := by decide

/-- A write of eight words from word 4 of descriptor 8 abandons descriptors 8 and 9. -/
theorem witness_CpuWriteAbandons_two :
    0 < (blank 8).length ∧ places.tx.holds 32 ((0x020110 : Addr).toNat + 4 * 0) = true ∧
    (∀ i, (i == 8 || i == 9) = true ↔ active.policy.mode ≠ .unconfigured ∧ i < places.tx.count ∧
      ∃ j, j < (blank 8).length ∧ places.tx.base ≤ (0x020110 : Addr).toNat + 4 * j ∧
        (0x020110 : Addr).toNat + 4 * j < 16777216 ∧ 8 * i ≤ ((0x020110 : Addr).toNat + 4 * j - places.tx.base) / 4 ∧
        ((0x020110 : Addr).toNat + 4 * j - places.tx.base) / 4 ≤ 8 * i + 4) ∧
    ([entryFor 8, entryFor 9, entryFor 10].map PendingEntry.index).Nodup ∧ active.counter .abandoned ≤ 65535 := by
  refine ⟨by decide, by decide, ?_, by decide, by decide⟩
  intro i
  have h : (0x020110 : Addr).toNat = 131344 := rfl
  have hl : (blank 8).length = 8 := rfl
  simp only [h, hl, places, active, Bool.or_eq_true, beq_iff_eq]
  constructor
  · rintro (rfl | rfl)
    · exact ⟨by decide, by decide, 0, by decide⟩
    · exact ⟨by decide, by decide, 4, by decide⟩
  · rintro ⟨-, -, j, h1, -, -, h2, h3⟩
    omega

theorem witness_StaleExpiryRemovesTheEntry :
    [entryFor 8, entryFor 9].find? (fun e => e.index == 9) = some (entryFor 9) ∧
    0 ≤ ((3015128 : Time) - (entryFor 9).expiry).toInt ∧
    ∀ e ∈ [entryFor 8, entryFor 9], e.index = 9 → ((3015127 : Time) - e.expiry).toInt < 0 := by decide

theorem witness_BinsAndTheirBeginningsAgree : 64 ≤ 64 ∧ 63 < 64 ∧ 21999 < 22000 ∧ 1 ≤ (Phase.mk 3000000 1).period := by decide

theorem witness_PhaseSpanIsTheBinsOfTheInterval :
    15000 ≤ (Phase.mk 3000000 15000).period ∧ (Phase.mk 3000000 22000).period ≤ 22000 ∧
    ((2150483647 : Time) - (Phase.mk 3000000 15000).ref).toInt + 1 ≤ 2147483648 := by decide

theorem witness_ScoreSteps : 1 ≤ 7 ∧ 7 ≤ 7 ∧ 255 ≤ 255 := by decide

theorem witness_SpectralFold :
    FoldInHand folding { body := .spectral sweep, voidMap := false, voidNeighbour := false } []
      (inFold (.spectral sweep)) ∧
    (some (9 : Nat) = (inFold (.spectral sweep)).intake.lastSequence) ∧
    ¬ (folding.context.radio.channel ≠ some sweep.channel ∨ sweep.span = .mhz40 ∧ folding.context.radio.width = .mhz20) ∧
    folding.context.radio.channel ≠ some ({ sweep with channel := 11 } : SpectralEntry).channel ∧
    folding.context.aligned = true ∧ folding.context.phase = some { ref := 3000000, period := 20000 } ∧
    ({ folding.context with aligned := false } : FoldContext).aligned = false ∧
    ({ folding.context with phase := none } : FoldContext).phase = none ∧
    (∀ x m n rest, active.intake.fifo ≠ { body := .spectral x, voidMap := m, voidNeighbour := n } :: rest) := by
  refine ⟨⟨rfl, rfl, rfl⟩, rfl, by decide, by decide, rfl, rfl, rfl, rfl, ?_⟩
  intro x m n rest h
  cases h

theorem witness_ReceiveFold (k : FrameKind) :
    FoldInHand folding { body := .receive (frame k), voidMap := false, voidNeighbour := false } [] (inFold (.receive (frame k))) ∧
    some 128 = airtimeOf folding.context.radio.preamble folding.context.rates (frame k).length (frame k).rate (frame k).width ∧
    folding.context.evidence.corruptedOn = true ∧ folding.context.evidence.cleanOn = true ∧
    (∀ x m n rest, active.intake.fifo ≠ { body := .receive x, voidMap := m, voidNeighbour := n } :: rest) := by
  refine ⟨⟨rfl, rfl, rfl⟩, by cases k <;> decide, rfl, rfl, ?_⟩
  intro x m n rest h
  cases h

theorem witness_CompletionFold :
    FoldInHand folding { body := .completion { outcome := .failure, start := 3005000, airtime := 128, slices := .low }
                         voidMap := false, voidNeighbour := false } []
      (inFold (.completion { outcome := .failure, start := 3005000, airtime := 128, slices := .low })) ∧
    folding.context.evidence.feedbackOn = true ∧ ({ folding.context.evidence with feedbackOn := false } : MapFields).feedbackOn = false ∧
    (∀ x m n rest, active.intake.fifo ≠ { body := .completion x, voidMap := m, voidNeighbour := n } :: rest) := by
  refine ⟨⟨rfl, rfl, rfl⟩, rfl, rfl, ?_⟩
  intro x m n rest h
  cases h

/-- A state with requests at the Map. -/
def mapping (q : List MapRequest) : State :=
  { active with map := { OccupancyMap.reset with
      settings := { hotLevel := 200, agePeriod := 3, ageShift := 2 }, requests := q } }

theorem witness_EvidenceIsServed :
    (mapping [.evidence (uniformEvidence (Span.run 62 1) .low (.rise 2)) true, .age]).map.requests =
      .evidence (uniformEvidence (Span.run 62 1) .low (.rise 2)) true :: [.age] ∧
    (uniformEvidence (Span.run 62 1) .low (.rise 2)).span.has 63 = true ∧
    (uniformEvidence (Span.run 62 1) .low (.rise 2)).span.has 2 = false ∧
    (uniformEvidence (Span.run 62 1) .low (.rise 2)).stepIn 1 = some (.rise 2) ∧
    (uniformEvidence (Span.run 62 1) .low (.fall 3)).stepIn 0 = some (.fall 3) ∧
    (uniformEvidence (Span.run 62 1) .low (.rise 2)).stepIn 2 = none ∧
    (∀ e b more, (mapping [.age]).map.requests ≠ .evidence e b :: more) := by
  refine ⟨rfl, by decide, by decide, by decide, by decide, by decide, ?_⟩
  intro e b more h
  cases h

theorem witness_AgeIsServed :
    (mapping [.age, .snapshot]).map.requests = .age :: [.snapshot] ∧ (mapping [.age, .snapshot]).map.Inv ∧
    (mapping [.age]).map.cycleAge + 1 < (mapping [.age]).map.settings.agePeriod ∧
    ({ (mapping [.age]).map with cycleAge := 2 } : OccupancyMap).cycleAge + 1 = (mapping [.age]).map.settings.agePeriod ∧
    OccupancyMap.reset.settings.agePeriod = 0 ∧ (mapping [.snapshot]).map.requests.head? ≠ some .age := by
  refine ⟨rfl, ⟨?_, by decide +kernel, ?_, ?_, by decide, ?_⟩, by decide, by decide, by decide, by decide⟩
  · intro i
    simp [mapping, OccupancyMap.reset]
  · simp [mapping, MapSettings.Legal]
  · simp [mapping, OccupancyMap.reset]
  · intro x h
    simp [mapping] at h

theorem witness_MapClearSettingsAndSnapshot :
    (mapping [.clear, .age]).map.requests = .clear :: [.age] ∧
    (mapping [.settings { hotLevel := 1, agePeriod := 0, ageShift := 7 }]).map.requests =
      .settings { hotLevel := 1, agePeriod := 0, ageShift := 7 } :: [] ∧
    (mapping [.snapshot]).map.requests = .snapshot :: [] ∧ (∀ r, (mapping [.snapshot]).bus.service ≠ some (.report r)) ∧
    ({ mapping [.snapshot] with bus := { active.bus with service := some (.report [(0x060000, 7)]) } } : State).bus.service =
      some (.report [(0x060000, 7)]) ∧
    (mapping [.age]).map.requests.head? ≠ some .clear ∧ (∀ m, (mapping [.age]).map.requests.head? ≠ some (.settings m)) ∧
    (mapping [.age]).map.requests.head? ≠ some .snapshot := by
  refine ⟨rfl, rfl, rfl, ?_, rfl, by decide, ?_, by decide⟩
  · intro r h
    cases h
  · intro m h
    cases h

/-- A state with one neighbour and requests at the Schedule. -/
def scheduling (e : Neighbour) (q : List ScheduleRequest) : State :=
  { active with
    air := { active.air with airTime := 1614917 }
    schedule := { tableWith e with requests := q } }

theorem witness_BeaconOfAKnownNeighbour :
    (∀ u : BeaconUpdate, (scheduling beaconer [.update u true, .clear]).schedule.requests = .update u true :: [.clear]) ∧
    (scheduling beaconer []).schedule.slots[0] = some beaconer ∧
    (∀ j : Fin 8, ∀ x, (scheduling beaconer []).schedule.slots[j] = some x → x.address = beaconer.address → j = 0) ∧
    ([1614917, 1613893, 1614918, 1613892] : List Time).map (fun t =>
      (t - (beaconer.anchor + BitVec.ofNat 32 (beaconer.interval * 1024))).toInt) = [512, -512, 513, -513] ∧
    (scheduling beaconer []).schedule.settings.tolerance = 512 ∧ ({ beaconer with misaligned := 2 } : Neighbour).misaligned = 2 ∧
    16 ≤ beaconer.interval ∧ beaconer.interval ≤ 1023 ∧ (99 : Nat) ≠ beaconer.interval := by
  refine ⟨fun _ => rfl, by decide, ?_, by decide, rfl, rfl, by decide, by decide, by decide⟩
  intro j x h _
  exact (tableWith_slot beaconer j x h).1

/-- A full table, all of one confidence, of which the entry in slot 7 was seen first. -/
def fullTable (confidence : Nat) : Schedule :=
  { tableWith beaconer with
    slots := Vector.ofFn fun i => some { beaconer with
      address := BitVec.ofNat 48 (100 + i.val), confidence := confidence
      lastSeen := if i.val = 7 then 1400000 else 1500000 } }

theorem witness_BeaconOfANewcomer :
    (∀ j : Fin 8, ∀ x, (tableWith beaconer).slots[j] = some x → x.address ≠ 8) ∧ (tableWith beaconer).slots[1] = none ∧
    (∀ j : Fin 8, j < 1 → (tableWith beaconer).slots[j] ≠ none) ∧ (∀ j : Fin 8, (fullTable 1).slots[j] ≠ none) ∧
    (∀ j : Fin 8, ∀ x, (fullTable 1).slots[j] = some x → x.address ≠ 8) ∧
    (∀ j : Fin 8, ∀ x, (fullTable 1).slots[j] = some x → 1 ≤ x.confidence ∧ (x.confidence = 1 →
      0 ≤ (x.lastSeen - 1400000).toInt ∧ (j < 7 → 0 < (x.lastSeen - 1400000).toInt))) ∧
    1 < (fullTable 1).settings.protect ∧ (fullTable 2).settings.protect ≤ 2 ∧
    (∀ u b more, (scheduling beaconer [.clear]).schedule.requests ≠ .update u b :: more) := by
  refine ⟨?_, by decide, ?_, ?_, ?_, ?_, by decide, by decide, ?_⟩
  · intro j x h
    simp [(tableWith_slot beaconer j x h).2, beaconer]
  · intro j h
    have : j = 0 := by omega
    subst this
    decide
  · intro j
    fin_cases j <;> simp [fullTable]
  · intro j x h
    fin_cases j <;> simp [fullTable] at h <;> subst h <;> decide
  · intro j x h
    fin_cases j <;> simp [fullTable] at h <;> subst h <;> decide
  · intro u b more h
    cases h

theorem witness_MissedBeacons :
    (scheduling beaconer []).schedule.slots[0] = some beaconer ∧
    0 ≤ ((scheduling beaconer []).air.airTime - beaconer.expiry).toInt ∧ beaconer.taken = false ∧
    ((1614916 : Time) - beaconer.expiry).toInt < 0 ∧
    (scheduling beaconer [.expiry 0 7, .clear]).schedule.requests = .expiry 0 7 :: [.clear] ∧
    (scheduling beaconer []).schedule.slots[1] = none ∧ beaconer.address = 7 ∧ 2 ≤ beaconer.confidence ∧
    ({ beaconer with confidence := 1 } : Neighbour).confidence ≤ 1 ∧
    (∀ i a more, (scheduling beaconer [.clear]).schedule.requests ≠ .expiry i a :: more) := by
  refine ⟨by decide, by decide, rfl, by decide, rfl, by decide, rfl, by decide, by decide, ?_⟩
  intro i a more h
  cases h

theorem witness_NeighbourClearAndSettings :
    (scheduling beaconer [.clear]).schedule.requests = .clear :: [] ∧
    (scheduling beaconer [.settings { tolerance := 64, guardBefore := 0, guardAfter := 0, protect := 1 }, .clear]).schedule.requests =
      .settings { tolerance := 64, guardBefore := 0, guardAfter := 0, protect := 1 } :: [.clear] ∧
    (64 : Nat) ≠ (scheduling beaconer []).schedule.settings.tolerance ∧
    512 = (scheduling beaconer []).schedule.settings.tolerance ∧
    (∃ (x : Neighbour → Time) (late : Neighbour → Bool), (∀ e, x e = e.anchor + BitVec.ofNat 32 (e.interval * 1024 + 64)) ∧
      ∀ e, late e = true ↔ (x e - (scheduling beaconer []).air.airTime).toInt ≤ 0) ∧
    (scheduling beaconer []).schedule.requests.head? ≠ some .clear ∧
    ∀ n, (scheduling beaconer []).schedule.requests.head? ≠ some (.settings n) := by
  refine ⟨rfl, rfl, by decide, by decide, ⟨_, fun e => decide _, fun e => rfl, fun e => decide_eq_true_iff⟩, by decide, ?_⟩
  intro n h
  cases h

/-- A tracker that sees an edge at an Air Time. -/
def edging (t : Time) (k : Tracker) : State := { active with air := { active.air with airTime := t }, tracker := k }

/-- A tracker LOCKED in BOTH at a reference edge at 500,000, as in the example of section 3.1. -/
def both : Tracker :=
  { Tracker.reset with
    edgeMode := .both, lockState := .locked, period := some 20000, ref := some 500000, lastAccepted := some 500000
    role := .middle, expiry := some 530000, coastLimit := 3, lastTransition := some 500000 }

theorem witness_MainsEdgeIsJudged :
    (after .pinReset active).bus.resetAsserted = true ∧ (edging 500099 both).bus.resetAsserted = false ∧
    ¬ Considered true (edging 500099 both) ∧ Considered true (edging 500100 both) ∧
    ¬ SpacingHolds (edging 504999 both) ∧ SpacingHolds (edging 505000 both) ∧ ¬ WindowHolds (edging 507999 both) ∧
    WindowHolds (edging 508000 both) ∧ WindowHolds (edging 512000 both) ∧ both.role = .middle := by
  refine ⟨rfl, rfl, ?_, ⟨rfl, ?_, Or.inl rfl⟩, ?_, ?_, ?_, ?_, ?_, rfl⟩
  · intro h
    exact absurd (h.2.1 500000 rfl) (by decide)
  · intro t h
    cases h
    decide
  · intro h
    exact absurd ((h 500000 rfl).1 20000 rfl) (by decide)
  · intro t h
    cases h
    refine ⟨?_, fun h => absurd h (by decide)⟩
    intro p h
    cases h
    decide
  · intro h
    exact absurd (h rfl (by decide) 20000 500000 rfl rfl) (by decide)
  · intro _ _ p r h1 h2
    cases h1
    cases h2
    decide
  · intro _ _ p r h1 h2
    cases h1
    cases h2
    decide

/-- The tracker of the lock example of section 3.3, in a lock state. -/
def rising (l : LockState) (p : Option Nat) (n : Nat) : Tracker :=
  { Tracker.reset with
    edgeMode := .rising, lockState := l, period := p, ref := some 180050, lastAccepted := some 180050, lockCount := n }

theorem witness_ReferenceEdgeByLockState :
    (∀ l p n, Considered true (edging 200070 (rising l p n))) ∧
    (∀ l n, SpacingHolds (edging 200070 (rising l (some 20007) n)) ∧ SpacingHolds (edging 200070 (rising l none n))) ∧
    (∀ l p n, (rising l p n).role = .reference ∧ (rising l p n).ref = some 180050 ∧ (rising l p n).lockState = l) ∧
    ([200070, 202050, 195050, 202051] : List Time).map (fun t => (t - 180050).toInt) = [20020, 22000, 15000, 22001] ∧
    (∃ q, (rising .locking (some 20007) 3).period = some q ∧ (20020 : Int) ≤ q + q / 32 ∧ (q : Int) ≤ 20020 + q / 32) ∧
    ¬ (∃ q, (rising .locking (some 20007) 3).period = some q ∧ (22000 : Int) ≤ q + q / 32 ∧ (q : Int) ≤ 22000 + q / 32) ∧
    (rising .locking (some 20007) 3).lockCount = 3 ∧ (rising .locking (some 20007) 2).lockCount ≤ 2 ∧
    ({ rising .seeking none 0 with ref := none } : Tracker).ref = none := by
  refine ⟨?_, ?_, fun _ _ _ => ⟨rfl, rfl, rfl⟩, by decide, ⟨20007, rfl, by decide, by decide⟩, ?_, rfl, by decide, rfl⟩
  · intro l p n
    refine ⟨rfl, ?_, Or.inr (Or.inl ⟨rfl, rfl⟩)⟩
    intro t h
    cases h
  · intro l n
    constructor
    · intro t h
      cases h
      refine ⟨?_, fun h => by cases h⟩
      intro p h
      cases h
      change (5001 : Int) ≤ ((200070 : Time) - 180050).toInt
      decide
    · intro t h
      cases h
      refine ⟨?_, fun _ => ?_⟩
      rotate_left
      · change 3750 ≤ ((200070 : Time) - 180050).toInt
        decide
      intro p h
      cases h
  · rintro ⟨q, h, h1, -⟩
    cases h
    exact absurd h1 (by decide)

theorem witness_CoastAndLoss :
    both.expiry = some 530000 ∧ 0 ≤ ((edging 530000 both).air.airTime - 530000).toInt ∧ both.ref = some 500000 ∧
    both.period = some 20000 ∧ both.lockState = .locked ∧
    ({ both with lockState := .coasting, coastCount := 2 } : Tracker).coastCount + 1 ≤ both.coastLimit ∧
    both.coastLimit < ({ both with lockState := .coasting, coastCount := 3 } : Tracker).coastCount + 1 ∧
    (rising .seeking none 0).lockState ≠ .locked ∧ both.lockState ≠ .coasting ∧
    (∀ x, both.expiry = some x → ((529999 : Time) - x).toInt < 0) := by
  refine ⟨rfl, by decide, rfl, rfl, rfl, by decide, by decide, by decide, by decide, ?_⟩
  intro x h
  cases h
  decide

/-- A record outside every window is taken. -/
theorem takes_free (s : State) (h1 : s.bus.observing = true) (h2 : s.bus.service = none)
    (h3 : ∀ w, s.bus.windows = some w → w = places) : TakesRecord s free := by
  refine ⟨h1, h2, by decide, ?_⟩
  intro i hi w hw
  rw [h3 w hw]
  interval_cases i <;> decide

theorem takes_active : TakesRecord active free := takes_free _ rfl rfl (by intro w h; cases h; rfl)

theorem takes_standby : TakesRecord standby free := takes_free _ rfl rfl (by intro w h; cases h; rfl)

/-- A body sealed with its checksum brings the sum to 0. -/
theorem sum_sealed (kind : BitVec 8) (b : RecordBody) : (recordFrame kind (sealed (recordFrame kind) b)).sum = 0#32 := by
  simp only [sealed, recordFrame, Words8.sum]
  bv_omega

/-- The same for a KEEPALIVE record. -/
theorem sum_sealed_keepalive (value : BitVec 16) (b : RecordBody) :
    (keepaliveFrame value (sealed (keepaliveFrame value) b)).sum = 0#32 := by
  simp only [sealed, keepaliveFrame, recordFrame, Words8.sum]
  bv_omega

/-- The same for a CLEAR record. -/
theorem sum_sealed_clear (bit : Nat) (b : RecordBody) : (clearFrame bit (sealed (clearFrame bit) b)).sum = 0#32 := by
  simp only [sealed, clearFrame, recordFrame, Words8.sum]
  bv_omega

/-- A set of windows that reaches every limit of R149 without passing it. -/
def widest : Windows :=
  { tx := { base := 0, count := 1024 }, rx := { base := 32768, count := 1024 }, spectral := { base := 49152, count := 256 }
    report := 16776704 }

theorem witness_WindowsRecord :
    TakesRecord standby free ∧ (∀ b, (recordFrame 1 (sealed (recordFrame 1) b)).sum = 0#32) ∧
    (widest.tx.base % 32 = 0 ∧ widest.rx.base % 16 = 0 ∧ widest.spectral.base % 32 = 0 ∧ widest.report % 512 = 0) ∧
    (widest.tx.count ≤ 1024 ∧ widest.rx.count ≤ 1024 ∧ widest.spectral.count ≤ 256) ∧ widest.report + 512 ≤ 16777216 ∧
    (∀ a, [widest.tx.holds 32 a, widest.rx.holds 16 a, widest.spectral.holds 32 a, widest.inReport a].count true ≤ 1) ∧
    ¬ (∀ a, [widest.tx.holds 32 a, (Window.mk 32752 1024).holds 16 a, widest.spectral.holds 32 a,
      widest.inReport a].count true ≤ 1) := by
  refine ⟨takes_standby, fun b => sum_sealed 1 b, by decide, by decide, by decide, ?_, ?_⟩
  · intro a
    simp only [widest, Window.holds, Window.limit, Windows.inReport, reportSize, Config.addressLimit, List.count_cons,
      List.count_nil]
    by_cases h1 : a < 32768 <;> by_cases h2 : a < 49152 <;> by_cases h3 : a < 57344 <;> by_cases h4 : a < 16776704 <;>
      simp [h1, h2, h3] <;> split_ifs <;> omega
  · intro h
    exact absurd (h 32752) (by decide)

theorem witness_RadioRecord :
    TakesRecord active free ∧ (∀ b, (recordFrame 2 (sealed (recordFrame 2) b)).sum = 0#32) ∧
    ([0x2800, 0x280F, 0x2901, 0x280E, 0x1401] : List (BitVec 16)).map (fun h =>
      ((h.extractLsb' 0 8).toNat, (h.extractLsb' 8 8).toNat)) = [(0, 40), (15, 40), (1, 41), (14, 40), (1, 20)] ∧
    ((40, 2, Width.mhz40, Secondary.below) : Nat × Nat × Width × Secondary) ∈
      [(20, 0, Width.mhz20, Secondary.none), (40, 1, .mhz40, .above), (40, 2, .mhz40, .below)] ∧
    active.policy.radio.channel = some 6 ∧ active.policy.radio.channel ≠ some 14 ∧ active.policy.radio.secondary ≠ .below ∧
    active.policy.radio.width = .mhz40 := by
  refine ⟨takes_active, fun b => sum_sealed 2 b, by decide, by decide, rfl, by decide, by decide, rfl⟩

theorem witness_RatesMapAndNeighbourRecords :
    TakesRecord standby free ∧ (∀ kind b, (recordFrame (BitVec.ofNat 8 kind) (sealed (recordFrame (BitVec.ofNat 8 kind)) b)).sum = 0#32) ∧
    ((0x0FFF0FFF : Word).extractLsb' 0 12).toNat = 4095 ∧ ((0x0000003F : Word).extractLsb' 0 12).toNat = 63 := by
  refine ⟨takes_standby, fun _ b => sum_sealed _ b, by decide, by decide⟩

theorem witness_MainsAndShapingRecords :
    TakesRecord active free ∧ (∀ kind b, (recordFrame kind (sealed (recordFrame kind) b)).sum = 0#32) ∧
    ((3, EdgeMode.both) : Nat × EdgeMode) ∈ [(0, EdgeMode.off), (1, .rising), (2, .falling), (3, .both)] ∧
    EdgeMode.falling = active.tracker.edgeMode ∧ EdgeMode.both ≠ active.tracker.edgeMode := by
  refine ⟨takes_active, fun _ b => sum_sealed _ b, by decide, rfl, by decide⟩

theorem witness_KeepaliveRecords :
    TakesRecord active free ∧ TakesRecord standby free ∧
    TakesRecord { standby with policy := Policy.reset } free ∧
    (∀ v b, (keepaliveFrame v (sealed (keepaliveFrame v) b)).sum = 0#32) ∧ active.policy.mode = .active ∧
    standby.policy.mode = .standby ∧ (1 : BitVec 16) ≠ 0x5AC3#16 ∧ (1 : BitVec 16) ≠ 0#16 := by
  refine ⟨takes_active, takes_standby, takes_free _ rfl rfl (by intro w h; cases h; rfl), fun _ b => sum_sealed_keepalive _ b,
    rfl, rfl, by decide, by decide⟩

theorem witness_RecordsThatAreNotActedOn :
    TakesRecord standby free ∧ (∀ kind b, (recordFrame kind (sealed (recordFrame kind) b)).sum = 0#32) ∧
    (13 ≤ (13 : BitVec 8).toNat ∧ (0 : BitVec 8).toNat = 0) ∧ (recordFrame 1 zeros).sum ≠ 0#32 ∧ standby.bus.service = none ∧
    (∀ w i, standby.bus.windows = some w → i < (blank 8).length → w.tx.holds 32 (free.toNat + 4 * i) = false) ∧
    (blank 8).head?.map WriteWord.data ≠ some 0x6A3C31E5#32 ∧ (blank 7).length ≠ 8 ∧ (0x100010 : Addr).toNat % 32 ≠ 0 ∧
    places.inside ((0x040000 : Addr).toNat + 4 * 0) = true := by
  refine ⟨takes_standby, fun _ b => sum_sealed _ b, by decide, by decide, rfl, ?_, by decide, by decide, by decide, by decide⟩
  intro w i h hi
  cases h
  have : i < 8 := hi
  interval_cases i <;> decide

theorem witness_RecordsThatAreNotActedOn_rows :
    TakesRecord standby free ∧ WritesRecord (.windows free zeros) free (recordFrame 1 zeros) ∧
    WritesRecord (.keepaliveRefresh free zeros) free (keepaliveFrame 0x5AC3 zeros) ∧
    WritesRecord (.clearCounters free zeros) free (clearFrame 2 zeros) ∧
    WritesRecord (.possibleAbandonment free (recordFrame 13 zeros).toWrite) free (recordFrame 13 zeros) ∧
    (recordFrame 1 zeros).sum ≠ 0#32 ∧ (keepaliveFrame 0x5AC3 zeros).sum ≠ 0#32 ∧ (clearFrame 2 zeros).sum ≠ 0#32 ∧
    (recordFrame 13 zeros).sum ≠ 0#32 := by
  refine ⟨takes_standby, ⟨rfl, Or.inr (Or.inr ⟨zeros, 1#8, Or.inl ⟨rfl, Or.inr (by simp)⟩, rfl, rfl, rfl, rfl, rfl, rfl⟩)⟩,
    ⟨rfl, Or.inr (Or.inr ⟨zeros, 9#8, Or.inr (Or.inl ⟨rfl, 0x5AC3#16, rfl, Or.inl ⟨rfl, rfl⟩⟩), rfl, rfl, rfl, rfl, rfl,
      rfl⟩)⟩,
    ⟨rfl, Or.inr (Or.inr ⟨zeros, 11#8, Or.inr (Or.inr ⟨rfl, 2, rfl, by simp⟩), rfl, rfl, rfl, rfl, rfl, rfl⟩)⟩,
    ⟨rfl, Or.inr (Or.inl rfl)⟩, by decide, by decide, by decide, by decide⟩

/-- Records that clear the step counter. -/
theorem witness_InWindowSampleSlewsTheOffset_cleared :
    TakesRecord active free ∧ (recordFrame 12#8 (sealed (recordFrame 12#8) zeros)).sum = 0#32 ∧
      (clearFrame 2 (sealed (clearFrame 2) zeros)).sum = 0#32 := ⟨takes_active, by decide, by decide⟩

theorem witness_AcknowledgeClearAndRestart :
    TakesRecord active free ∧ (∀ kind b, (recordFrame kind (sealed (recordFrame kind) b)).sum = 0#32) ∧
    (∀ bit b, (clearFrame bit (sealed (clearFrame bit) b)).sum = 0#32) ∧
    (∀ w : Words8, w = recordFrame 11#8 (sealed (recordFrame 11#8) zeros) →
      w.w0 = 0x6A3C31E5#32 ∧ w.w1.extractLsb' 0 8 = 11#8 ∧ w.w2.extractLsb' 0 3 = 0#3 ∧ w.sum = 0#32 ∧
      WritesRecord (.possibleAbandonment free w.toWrite) free w) := by
  refine ⟨takes_active, fun _ b => sum_sealed _ b, fun _ b => sum_sealed_clear _ b, ?_⟩
  rintro w rfl
  exact ⟨rfl, by decide, by decide, by decide, rfl, Or.inr (Or.inl rfl)⟩

/-- A fold that waits for its request at the Map, with an entry behind it. -/
def waiting : State :=
  { active with
    intake := { fifo := [{ body := .spectral sweep, voidMap := true, voidNeighbour := false },
                         { body := .receive (frame .ownData), voidMap := false, voidNeighbour := false }]
                fold := some { folding with handedOn := true }, lastSequence := some 10 }
    map := { OccupancyMap.reset with
      requests := [.age, .evidence (uniformEvidence (Span.run 62 1) .low (.rise 2)) true, .snapshot] } }

/-- The folds of SpectralFold, ReceiveFold and CompletionFold with an entry behind them, and the requests of EvidenceIsServed and
the beacon statements with a fold that waits and an entry behind it. -/
theorem witness_FoldEnded_entryBehind (b : EntryBody) (e : Entry) :
    FoldInHand folding { body := b, voidMap := true, voidNeighbour := true } [e]
      { active with intake := { fifo := [{ body := b, voidMap := true, voidNeighbour := true }, e]
                                fold := some folding, lastSequence := none } } ∧
    waiting.intake.fifo = { body := .spectral sweep, voidMap := true, voidNeighbour := false } ::
      { body := .receive (frame .ownData), voidMap := false, voidNeighbour := false } :: [] := ⟨⟨rfl, rfl, rfl⟩, rfl⟩

/-- Every command answers from a state whose tracker is in use. -/
theorem witness_TrackerStaysLegal (c : Instr) : exec c active = .next (after c active) ∧ active.tracker.Inv := by
  refine ⟨exec_after c active, ?_⟩
  refine ⟨?_, ?_, ?_, ?_, ?_, ?_, ?_, ?_, ?_, ?_, ?_, ?_, ?_, ?_⟩ <;>
    simp [active, Tracker.reset]

/-- Every command answers from a state whose Map is in use. -/
theorem witness_OccupancyMapStaysLegal (c : Instr) :
    exec c (mapping [.age, .snapshot]) = .next (after c (mapping [.age, .snapshot])) ∧
      (mapping [.age, .snapshot]).map.Inv := ⟨exec_after _ _, witness_AgeIsServed.2.1⟩

theorem witness_IntakeStaysConsistent (c : Instr) :
    exec c waiting = .next (after c waiting) ∧ waiting.IntakeInv := by
  refine ⟨exec_after c waiting, by decide, by decide, by decide⟩

/-- A neighbour's entry with requests behind it. -/
def beaconing : State :=
  scheduling beaconer
    [.update { address := 8, interval := 100, start := 1614000, airtime := some 400 } false,
     .settings { tolerance := 64, guardBefore := 200, guardAfter := 100, protect := 7 }, .clear]

theorem witness_ScheduleStaysLegal (c : Instr) :
    exec c beaconing = .next (after c beaconing) ∧ beaconing.schedule.Inv ∧
    exec c { standby with policy := Policy.reset } = .next (after c { standby with policy := Policy.reset }) ∧
    State.UnconfiguredEmpty { standby with policy := Policy.reset } ∧ standby.policy.mode ≠ .unconfigured := by
  refine ⟨exec_after _ _, ⟨?_, ?_, ?_, ?_, ?_⟩, exec_after _ _, ⟨?_, ?_⟩, by decide⟩
  · intro i e h
    obtain ⟨-, rfl⟩ := tableWith_slot beaconer i e h
    refine ⟨by decide, by decide, by decide, by decide, by decide, by decide⟩
  · intro i j e f h1 h2 _
    rw [(tableWith_slot beaconer i e h1).1, (tableWith_slot beaconer j f h2).1]
  · refine ⟨by decide, by decide, by decide, by decide, by decide, by decide⟩
  · intro n h
    simp [beaconing, scheduling] at h
    subst h
    refine ⟨by decide, by decide, by decide, by decide, by decide, by decide⟩
  · intro u b n h hn
    simp [beaconing, scheduling] at h
    obtain ⟨rfl, rfl⟩ := h
    cases hn
    decide
  · intro _
    exact ⟨rfl, rfl, fun a b h => by cases h⟩
  · intro _
    exact ⟨fun i => by simp [standby, State.reset, Schedule.reset], rfl, rfl,
      fun u b h => (List.not_mem_nil h).elim, fun a l h => by cases h⟩

theorem witness_PendingListStaysConsistent (c : Instr) :
    exec c (following [entryFor 3, entryFor 9] [.whole 10 queued] [.stored [5]]) =
      .next (after c (following [entryFor 3, entryFor 9] [.whole 10 queued] [.stored [5]])) ∧
    (following [entryFor 3, entryFor 9] [.whole 10 queued] [.stored [5]]).PendingInv ∧
    exec c { standby with policy := Policy.reset } = .next (after c { standby with policy := Policy.reset }) ∧
    State.UnconfiguredPending { standby with policy := Policy.reset } := by
  refine ⟨exec_after _ _, ⟨by decide, by decide, ?_, by decide, ?_⟩, exec_after _ _, ?_⟩
  · intro e h
    have h : e = entryFor 3 ∨ e = entryFor 9 := by simpa [following] using h
    rcases h with rfl | rfl <;>
      exact ⟨by decide, by decide, by decide, by decide, by decide, by decide, by decide⟩
  · intro v h
    cases h
    refine ⟨?_, _, _, rfl⟩
    change ∀ e ∈ [entryFor 3, entryFor 9], e.index ≠ 8
    decide
  · intro _
    exact ⟨rfl, rfl, fun a b h => by cases h⟩

/-- ACTIVE with the edge mode and the coast limit that its tracker was handed. -/
def configured : State :=
  { active with policy := { active.policy with edgeMode := .falling, coastLimit := 3 } }

theorem witness_PolicyStaysLegal (c : Instr) :
    exec c configured = .next (after c configured) ∧ configured.PolicyInv ∧ configured.policy.mode = .active := by
  refine ⟨exec_after _ _, ⟨⟨?_, by decide, by decide, by decide, by decide, by decide⟩, ?_, ?_, ?_, ?_, ?_, by decide,
    by decide, by decide, by decide, by decide, by decide, by decide, rfl, by decide, rfl, rfl⟩, rfl⟩
  · intro n h
    cases h
    decide
  · refine ⟨?_, ?_, ?_, ?_, ?_, ?_, ?_, ?_, ?_, ?_, ?_, ?_, ?_, ?_⟩ <;>
      simp [configured, active, Policy.reset, shiftLegal, MapSettings.reset]
  · refine ⟨by decide, by decide, by decide, by decide, by decide, by decide⟩
  · refine ⟨by decide, by decide, by decide, by decide, by decide⟩
  · intro i
    fin_cases i <;> decide
  · intro w h
    cases h
    exact places_legal

/-- ACTIVE with counters at their limit, two flags set and one of their enables. -/
def reporting : State :=
  { active with report := { active.report with
      counters := Vector.replicate 40 65535, flags := 0x0204, enables := 0x8004, attn := true } }

theorem witness_CountersSaturateAndFlagsStay (c : Instr) :
    exec c reporting = .next (after c reporting) ∧ reporting.ReportInv ∧ reporting.report.flags.getLsbD 2 = true ∧
    (∀ k : Counter, reporting.counter k = 65535) := by
  have hk : ∀ k : Counter, reporting.counter k = 65535 := by
    intro k
    simp [reporting, State.counter]
  refine ⟨exec_after _ _, ⟨fun k => (hk k).le, ?_, ?_, by decide⟩, by decide, hk⟩
  · intro n hn
    by_cases h : n < 16
    · interval_cases n <;> decide
    · exact BitVec.getLsbD_of_ge _ _ (by omega)
  · exact ⟨fun _ => ⟨2, by decide, by decide⟩, fun _ => rfl⟩

end Sys2Proof.Tests
end

section
/-! What a command does, said once: every command answers the state of one of these effects with its lines driven. -/

namespace Sys2Proof.Machine

/-- The transfer that a command presents at the U-port: a transfer, the form `take` of a row that has two, or the frame of a
row that names a control record (log entry 16). -/
def presented (c : Instr) : Option Transfer :=
  match c with
  | .transfer t => some t
  | .descriptorRead (.take addr ws) => some (.read .txDma addr ws)
  | .reportRead (.take addr ws) => some (.read .cpu addr ws)
  | .completionCandidate addr (.take words) => some (.write .txDma addr words)
  | .receiveRecordIntake addr (.take words) => some (.write .rxDma addr words)
  | .possibleAbandonment addr words => some (.write .cpu addr words)
  | .unknownKind addr kind body => some (.write .cpu addr (recordFrame kind body).toWrite)
  | .windows addr body => some (.write .cpu addr (recordFrame 1#8 body).toWrite)
  | .radio addr body => some (.write .cpu addr (recordFrame 2#8 body).toWrite)
  | .ratesLow addr body => some (.write .cpu addr (recordFrame 3#8 body).toWrite)
  | .ratesHigh addr body => some (.write .cpu addr (recordFrame 4#8 body).toWrite)
  | .mains addr body => some (.write .cpu addr (recordFrame 5#8 body).toWrite)
  | .map addr body => some (.write .cpu addr (recordFrame 6#8 body).toWrite)
  | .neighbour addr body => some (.write .cpu addr (recordFrame 7#8 body).toWrite)
  | .shaping addr body => some (.write .cpu addr (recordFrame 8#8 body).toWrite)
  | .keepaliveRefresh addr body => some (.write .cpu addr (keepaliveFrame Config.refreshValue body).toWrite)
  | .keepaliveRelease addr body => some (.write .cpu addr (keepaliveFrame Config.releaseValue body).toWrite)
  | .keepaliveValue addr value body => some (.write .cpu addr (keepaliveFrame value body).toWrite)
  | .acknowledge addr body => some (.write .cpu addr (recordFrame 10#8 body).toWrite)
  | .clearMap addr body => some (.write .cpu addr (clearFrame 0 body).toWrite)
  | .clearNeighbours addr body => some (.write .cpu addr (clearFrame 1 body).toWrite)
  | .clearCounters addr body => some (.write .cpu addr (clearFrame 2 body).toWrite)
  | .restart addr body => some (.write .cpu addr (recordFrame 12#8 body).toWrite)
  | _ => none

/-- A command that presents a transfer does what the taking of the transfer does. -/
theorem exec_of_presented {c : Instr} {x : Transfer} (h : presented c = some x) (s : State) :
    exec c s = .next (s.takeTransfer x).driveLines := by
  cases c with
  | descriptorRead e => cases e <;> cases h; rfl
  | reportRead e => cases e <;> cases h; rfl
  | completionCandidate _ e => cases e <;> cases h; rfl
  | receiveRecordIntake _ e => cases e <;> cases h; rfl
  | _ => cases h <;> rfl

/-- The state that a command leaves before the lines are driven: one of the model's operations, with what the command found
when it acts only on that. -/
inductive Effect (c : Instr) (s : State) : State → Prop
  | idle : Effect c s s
  | pinReset : c = .pinReset → Effect c s s.assertReset
  | released : Effect c s { s with bus.resetAsserted := false }
  | presents {x : Transfer} : presented c = some x → Effect c s (s.takeTransfer x)
  | tick : Effect c s s.takeTick
  | microsecond : Effect c s s.tickMicrosecond
  | descriptor : Effect c s s.nextDescriptor
  | reportWord : Effect c s s.nextReportWord
  | completionWord : Effect c s s.nextCompletion
  | record : Effect c s s.nextRecord
  | admission {v : AdmissionView} : s.admission.inProgress = some v → Effect c s (s.endAdmission v)
  | stale (index : Nat) : Effect c s (s.takeStale index)
  | mainsEdge (rising : Bool) : Effect c s (s.mainsTransition rising)
  | lockExpiry : Effect c s s.takeLockExpiry
  | coastExpiry : Effect c s s.takeCoastExpiry
  | spectralFold {f : Fold} {e : Entry} {x : SpectralEntry} : s.startFold.foldInHand = some (f, e) → e.body = .spectral x →
      Effect c s (s.startFold.foldSpectral f x e.voidMap)
  | receiveFold {f : Fold} {e : Entry} {x : ReceiveEntry} : s.startFold.foldInHand = some (f, e) → e.body = .receive x →
      Effect c s (s.startFold.foldReceive f x e.voidMap e.voidNeighbour)
  | completionFold {f : Fold} {e : Entry} {x : CompletionEntry} : s.startFold.foldInHand = some (f, e) →
      e.body = .completion x → Effect c s (s.startFold.foldCompletion f x e.voidMap)
  | evidence {e : Evidence} {forFold : Bool} {rest : List MapRequest} : s.map.requests = .evidence e forFold :: rest →
      Effect c s ((s.popMap.serveEvidence e).endFoldIf forFold)
  | age : Effect c s s.popMap.serveAge
  | mapClear : Effect c s s.popMap.serveClear
  | mapSettings {m : MapSettings} {rest : List MapRequest} : s.map.requests = .settings m :: rest →
      Effect c s (s.popMap.serveSettings m)
  | snapshot : Effect c s s.takeSnapshot
  | beaconUpdate {u : BeaconUpdate} {forFold : Bool} {rest : List ScheduleRequest} :
      s.schedule.requests = .update u forFold :: rest → Effect c s ((s.popSchedule.serveUpdate u).endFoldIf forFold)
  | missExpiry (slot : Fin 8) : Effect c s (s.takeMiss slot)
  | missedBeacon {slot : Fin 8} {address : BitVec 48} {rest : List ScheduleRequest} :
      s.schedule.requests = .expiry slot address :: rest → Effect c s (s.popSchedule.serveExpiry slot address)
  | neighbourClear : Effect c s s.popSchedule.serveNeighbourClear
  | neighbourSettings {n : NeighbourFields} {rest : List ScheduleRequest} : s.schedule.requests = .settings n :: rest →
      Effect c s (s.popSchedule.serveNeighbourSettings n)

/-- Every command has one of the effects. -/
theorem exec_has_effect (c : Instr) (s : State) : ∃ u, Effect c s u ∧ exec c s = .next u.driveLines := by
  cases c with
  | pinReset => exact ⟨_, .pinReset rfl, rfl⟩
  | resetRelease => exact ⟨_, .released, rfl⟩
  | tenMillisecondTick => exact ⟨_, .tick, rfl⟩
  | keepaliveExpiry =>
    simp only [exec, execKeepaliveExpiry]
    split
    · exact ⟨_, .tick, rfl⟩
    · exact ⟨_, .idle, rfl⟩
  | descriptorRead e =>
    cases e with
    | take addr ws => exact ⟨_, .presents rfl, rfl⟩
    | next => exact ⟨_, .descriptor, rfl⟩
  | reportRead e =>
    cases e with
    | take addr ws => exact ⟨_, .presents rfl, rfl⟩
    | next => exact ⟨_, .reportWord, rfl⟩
  | completionCandidate addr e =>
    cases e with
    | take words => exact ⟨_, .presents rfl, rfl⟩
    | next => exact ⟨_, .completionWord, rfl⟩
  | receiveRecordIntake addr e =>
    cases e with
    | take words => exact ⟨_, .presents rfl, rfl⟩
    | next => exact ⟨_, .record, rfl⟩
  | admissionResult =>
    simp only [exec, execAdmissionResult]
    split
    · exact ⟨_, .admission ‹_›, rfl⟩
    · exact ⟨_, .idle, rfl⟩
  | staleExpiry index => exact ⟨_, .stale index, rfl⟩
  | mainsEdge rising => exact ⟨_, .mainsEdge rising, rfl⟩
  | lockExpiry => exact ⟨_, .lockExpiry, rfl⟩
  | coastExpiry => exact ⟨_, .coastExpiry, rfl⟩
  | spectralFold =>
    simp only [exec, execSpectralFold]
    split
    · exact ⟨_, .spectralFold ‹_› rfl, rfl⟩
    · exact ⟨_, .idle, rfl⟩
  | receiveFold =>
    simp only [exec, execReceiveFold]
    split
    · exact ⟨_, .receiveFold ‹_› rfl, rfl⟩
    · exact ⟨_, .idle, rfl⟩
  | completionFold =>
    simp only [exec, execCompletionFold]
    split
    · exact ⟨_, .completionFold ‹_› rfl, rfl⟩
    · exact ⟨_, .idle, rfl⟩
  | evidence =>
    simp only [exec, execEvidence]
    split
    · exact ⟨_, .evidence ‹_›, rfl⟩
    · exact ⟨_, .idle, rfl⟩
  | age =>
    simp only [exec, execAge]
    split
    · exact ⟨_, .age, rfl⟩
    · exact ⟨_, .idle, rfl⟩
  | mapClear =>
    simp only [exec, execMapClear]
    split
    · exact ⟨_, .mapClear, rfl⟩
    · exact ⟨_, .idle, rfl⟩
  | mapSettings =>
    simp only [exec, execMapSettings]
    split
    · exact ⟨_, .mapSettings ‹_›, rfl⟩
    · exact ⟨_, .idle, rfl⟩
  | snapshot => exact ⟨_, .snapshot, rfl⟩
  | beaconUpdate =>
    simp only [exec, execBeaconUpdate]
    split
    · exact ⟨_, .beaconUpdate ‹_›, rfl⟩
    · exact ⟨_, .idle, rfl⟩
  | missExpiry slot => exact ⟨_, .missExpiry slot, rfl⟩
  | missedBeacon =>
    simp only [exec, execMissedBeacon]
    split
    · exact ⟨_, .missedBeacon ‹_›, rfl⟩
    · exact ⟨_, .idle, rfl⟩
  | neighbourClear =>
    simp only [exec, execNeighbourClear]
    split
    · exact ⟨_, .neighbourClear, rfl⟩
    · exact ⟨_, .idle, rfl⟩
  | neighbourSettings =>
    simp only [exec, execNeighbourSettings]
    split
    · exact ⟨_, .neighbourSettings ‹_›, rfl⟩
    · exact ⟨_, .idle, rfl⟩
  | airTimeAdvance => exact ⟨_, .microsecond, rfl⟩
  | _ => exact ⟨_, .presents rfl, rfl⟩

/-- What a command answered is one of the effects with its lines driven. -/
theorem effect_of_exec {c : Instr} {s t : State} (h : exec c s = .next t) : ∃ u, Effect c s u ∧ t = u.driveLines := by
  obtain ⟨u, hu, he⟩ := exec_has_effect c s
  rw [he] at h
  exact ⟨u, hu, (Host.Outcome.next.inj h).symm⟩

/-- A property that every effect keeps, and that does not read the lines, is kept by every command. -/
theorem exec_keeps {P : State → Prop} (lines : ∀ u : State, P u → P u.driveLines)
    (effects : ∀ (c : Instr) (s u : State), P s → Effect c s u → P u) :
    ∀ (c : Instr) (s t : State), P s → exec c s = .next t → P t := by
  intro c s t hs h
  obtain ⟨u, hu, rfl⟩ := effect_of_exec h
  exact lines u (effects c s u hs hu)

/-! ### What a command reports, and the blocks it changes -/

/-- Only the blocks named differ, block by block. -/
theorem onlyIn_iff (changed : List Block) (s t : State) : OnlyIn changed s t ↔ t.pending = s.pending ∧
    (.air ∉ changed → t.air = s.air) ∧ (.tracker ∉ changed → t.tracker = s.tracker) ∧
    (.intake ∉ changed → t.intake = s.intake) ∧ (.map ∉ changed → t.map = s.map) ∧
    (.schedule ∉ changed → t.schedule = s.schedule) ∧ (.admission ∉ changed → t.admission = s.admission) ∧
    (.rewriter ∉ changed → t.rewriter = s.rewriter) ∧ (.policy ∉ changed → t.policy = s.policy) ∧
    (.report ∉ changed → t.report = s.report) ∧ (.bus ∉ changed → t.bus = s.bus) := by
  constructor
  · rintro ⟨hp, h⟩
    exact ⟨hp, h .air, h .tracker, h .intake, h .map, h .schedule, h .admission, h .rewriter, h .policy, h .report, h .bus⟩
  · rintro ⟨pending, air, tracker, intake, map, schedule, admission, rewriter, policy, report, bus⟩
    refine ⟨pending, fun b => ?_⟩
    cases b
    exacts [air, tracker, intake, map, schedule, admission, rewriter, policy, report, bus]

theorem Reported.refl (s : State) : Reported [] [] s s := ⟨rfl, rfl, rfl, by simp⟩

theorem Reported.driveLines {set : List Flag} {counted : List Counter} {s t : State} (h : Reported set counted s t) :
    Reported set counted s t.driveLines := by
  obtain ⟨hf, he, hw, hc⟩ := h
  exact ⟨hf, he, hw, hc⟩

theorem Reported.setFlag {set : List Flag} {counted : List Counter} {s t : State} (h : Reported set counted s t) (f : Flag) :
    Reported (set ++ [f]) counted s (t.setFlag f) := by
  obtain ⟨hf, he, hw, hc⟩ := h
  exact ⟨by simp [hf, withFlag], he, hw, hc⟩

theorem Reported.count {set : List Flag} {counted : List Counter} {s t : State} (h : Reported set counted s t) {c : Counter}
    (new : c ∉ counted) : Reported set (counted ++ [c]) s (t.count c) := by
  obtain ⟨hf, he, hw, hc⟩ := h
  refine ⟨hf, he, hw, fun d => ?_⟩
  by_cases hd : d = c
  · subst hd; simp [hc, new]
  · simp [hc, hd]

/-- What is reported is read off the Report Unit alone. -/
theorem Reported.congr {set : List Flag} {counted : List Counter} {s t s' t' : State} (h : Reported set counted s t)
    (hs : s'.report = s.report) (ht : t'.report = t.report) : Reported set counted s' t' := by
  unfold Reported State.counter at h ⊢
  rw [hs, ht]
  exact h

end Sys2Proof.Machine
end

section
/-! What no operation of the blocks changes besides a control record, the tick and a pin reset: the policy, the windows, the
tracker's settings and the WIN fields stay, counters only rise, flags are only set, and the queue of commands is left as it is. -/

namespace Sys2Proof.Machine

/-- The Report Unit has only counted and set flags, and the outlier run stays in its range (R25, R164, R166). -/
structure Tallied (s t : State) : Prop where
  counters : ∀ c : Counter, s.counter c ≤ 65535 → s.counter c ≤ t.counter c ∧ t.counter c ≤ 65535
  flags : ∀ n, s.report.flags.getLsbD n = true → t.report.flags.getLsbD n = true
  unused : ∀ n, 10 ≤ n → s.report.flags.getLsbD n = false → t.report.flags.getLsbD n = false
  outlierRun : s.air.outlierRun ≤ 3 → t.air.outlierRun ≤ 3

namespace Tallied

theorem refl (s : State) : Tallied s s :=
  ⟨fun _ h => ⟨le_rfl, h⟩, fun _ h => h, fun _ _ h => h, id⟩

theorem trans {s t u : State} (h : Tallied s t) (g : Tallied t u) : Tallied s u where
  counters c hc :=
    have hst := h.counters c hc
    have htu := g.counters c hst.2
    ⟨hst.1.trans htu.1, htu.2⟩
  flags n hn := g.flags n (h.flags n hn)
  unused n hn hs := g.unused n hn (h.unused n hn hs)
  outlierRun hs := g.outlierRun (h.outlierRun hs)

/-- An update of what the relation does not read. -/
theorem congr {s t u : State} (h : Tallied s t) (same :
    (u.report.flags, u.report.counters, u.air.outlierRun) = (t.report.flags, t.report.counters, t.air.outlierRun)) :
    Tallied s u := by
  obtain ⟨flags, counters, outlierRun⟩ : u.report.flags = t.report.flags ∧ u.report.counters = t.report.counters ∧
    u.air.outlierRun = t.air.outlierRun := by simpa using same
  have hc : ∀ c, u.counter c = t.counter c := fun c => by unfold State.counter; rw [counters]
  refine ⟨fun c => ?_, ?_, ?_, ?_⟩
  · rw [hc]; exact h.counters c
  · rw [flags]; exact h.flags
  · rw [flags]; exact h.unused
  · rw [outlierRun]; exact h.outlierRun

theorem count {s t : State} (h : Tallied s t) (c : Counter) : Tallied s (t.count c) where
  counters d hd := by
    have := h.counters d hd
    rw [State.count_counter]
    split
    · subst d; omega
    · exact this
  flags := h.flags
  unused := h.unused
  outlierRun := h.outlierRun

theorem setFlag {s t : State} (h : Tallied s t) (f : Flag) : Tallied s (t.setFlag f) where
  counters := h.counters
  flags n hn := by simp [withFlag, h.flags n hn]
  unused n hn hs := by
    have : f.number < 10 := by cases f <;> decide
    have bit : (1#16 <<< f.number).getLsbD n = false := by
      simp only [BitVec.getLsbD_shiftLeft, BitVec.getLsbD_one]
      simp; omega
    simp [withFlag, h.unused n hn hs, bit]
  outlierRun := h.outlierRun

end Tallied

/-- What every operation of a block keeps: the policy with its copies, the windows, the queue of commands, and the Report Unit
as it only counts and sets flags. -/
structure Quiet (s t : State) : Prop extends Tallied s t where
  policy : t.policy = s.policy
  windows : t.bus.windows = s.bus.windows
  edgeMode : t.tracker.edgeMode = s.tracker.edgeMode
  coastLimit : t.tracker.coastLimit = s.tracker.coastLimit
  win : t.report.win = s.report.win
  pending : t.pending = s.pending

namespace Quiet

theorem refl (s : State) : Quiet s s := ⟨.refl s, rfl, rfl, rfl, rfl, rfl, rfl⟩

theorem trans {s t u : State} (h : Quiet s t) (g : Quiet t u) : Quiet s u :=
  ⟨h.toTallied.trans g.toTallied, g.policy.trans h.policy, g.windows.trans h.windows, g.edgeMode.trans h.edgeMode,
    g.coastLimit.trans h.coastLimit, g.win.trans h.win, g.pending.trans h.pending⟩

/-- An update of what the relation does not read. -/
theorem congr {s t u : State} (h : Quiet s t) (same :
    (u.policy, u.bus.windows, u.tracker.edgeMode, u.tracker.coastLimit, u.report, u.air.outlierRun, u.pending) =
      (t.policy, t.bus.windows, t.tracker.edgeMode, t.tracker.coastLimit, t.report, t.air.outlierRun, t.pending)) : Quiet s u := by
  obtain ⟨policy, windows, edgeMode, coastLimit, report, outlierRun, pending⟩ : u.policy = t.policy ∧
    u.bus.windows = t.bus.windows ∧ u.tracker.edgeMode = t.tracker.edgeMode ∧ u.tracker.coastLimit = t.tracker.coastLimit ∧
    u.report = t.report ∧ u.air.outlierRun = t.air.outlierRun ∧ u.pending = t.pending := by simpa using same
  exact ⟨h.toTallied.congr (by simp [report, outlierRun]), policy.trans h.policy, windows.trans h.windows,
    edgeMode.trans h.edgeMode, coastLimit.trans h.coastLimit, by rw [report, h.win], pending.trans h.pending⟩

/-- An operation that comes after an update of what the relation does not read. -/
theorem after {s t u : State} (h : Quiet t u) (same :
    (t.policy, t.bus.windows, t.tracker.edgeMode, t.tracker.coastLimit, t.report, t.air.outlierRun, t.pending) =
      (s.policy, s.bus.windows, s.tracker.edgeMode, s.tracker.coastLimit, s.report, s.air.outlierRun, s.pending)) : Quiet s u := ((refl s).congr same).trans h

theorem count {s t : State} (h : Quiet s t) (c : Counter) : Quiet s (t.count c) :=
  ⟨h.toTallied.count c, h.policy, h.windows, h.edgeMode, h.coastLimit, h.win, h.pending⟩

theorem setFlag {s t : State} (h : Quiet s t) (f : Flag) : Quiet s (t.setFlag f) :=
  ⟨h.toTallied.setFlag f, h.policy, h.windows, h.edgeMode, h.coastLimit, h.win, h.pending⟩

/-- An operation applied again and again. -/
theorem foldl {α : Type} {f : State → α → State} (hf : ∀ s a, Quiet s (f s a)) (l : List α) (s : State) :
    Quiet s (l.foldl f s) := by
  induction l generalizing s with
  | nil => exact .refl s
  | cons a l ih => exact (hf s a).trans (ih (f s a))

end Quiet

/-! ### Record Intake -/

theorem State.takeSample_quiet (s : State) (x : Word) : Quiet s (s.takeSample x) := by
  unfold State.takeSample
  split
  · exact ⟨⟨(Tallied.refl s).counters, fun _ h => h, fun _ _ h => h, fun _ => by simp⟩, rfl, rfl, rfl, rfl, rfl, rfl⟩
  · split
    · exact ⟨⟨(Tallied.refl s).counters, fun _ h => h, fun _ _ h => h, fun _ => by simp⟩, rfl, rfl, rfl, rfl, rfl, rfl⟩
    · split
      · exact ⟨⟨(Tallied.refl s).counters, fun _ h => h, fun _ _ h => h, fun _ => by dsimp only; omega⟩,
          rfl, rfl, rfl, rfl, rfl, rfl⟩
      · refine .count (.setFlag ?_ _) _
        exact ⟨⟨(Tallied.refl s).counters, fun _ h => h, fun _ _ h => h, fun _ => by simp⟩, rfl, rfl, rfl, rfl, rfl, rfl⟩

theorem State.sampleFor_quiet (s : State) (e : Entry) : Quiet s (s.sampleFor e) := by
  unfold State.sampleFor
  split
  · exact s.takeSample_quiet _
  · exact .refl s
  · exact .refl s

theorem State.startFold_quiet (s : State) : Quiet s s.startFold := by
  unfold State.startFold
  split
  · exact (s.sampleFor_quiet _).congr rfl
  · exact .refl s

theorem State.endFold_quiet (s : State) : Quiet s s.endFold :=
  (State.startFold_quiet _).after rfl

theorem State.endFoldIf_quiet (s : State) (b : Bool) : Quiet s (s.endFoldIf b) := by
  unfold State.endFoldIf
  split
  · exact s.endFold_quiet
  · exact .refl s

theorem State.arrive_quiet (s : State) (b : EntryBody) : Quiet s (s.arrive b) := by
  unfold State.arrive
  split
  · exact ((Quiet.refl s).setFlag _).count _
  · exact (State.startFold_quiet _).after rfl

theorem State.arriveRecord_quiet (s : State) (a : Time) (r : IntakeRecord) : Quiet s (s.arriveRecord a r) := by
  unfold State.arriveRecord
  split
  · split
    · exact s.arrive_quiet _
    · exact (Quiet.refl s).count _
  · split
    · exact s.arrive_quiet _
    · exact (Quiet.refl s).count _
  · exact (Quiet.refl s).count _

/-! ### The folds -/

theorem State.giveEvidence_quiet (s : State) (f : Fold) (a : Time) (n : Nat) (v : SliceSet) (k : CellStep) :
    Quiet s (s.giveEvidence f a n v k) := by
  unfold State.giveEvidence
  split
  · exact ((Quiet.refl s).count _).trans (State.endFold_quiet _)
  · exact (Quiet.refl s).congr rfl

theorem State.compareSequence_quiet (s : State) (n : Nat) : Quiet s (s.compareSequence n) := by
  simp only [State.compareSequence]
  split
  · exact (Quiet.refl s).congr rfl
  · split
    · exact (Quiet.refl s).congr rfl
    · exact ((Quiet.refl s).congr (by rfl)).count _

theorem State.foldSweep_quiet (s : State) (f : Fold) (x : SpectralEntry) (v : Bool) : Quiet s (s.foldSweep f x v) := by
  have counted : ∀ c, Quiet s (s.count c).endFold := fun c => ((Quiet.refl s).count c).trans (State.endFold_quiet _)
  unfold State.foldSweep
  split
  · exact s.endFold_quiet
  · split
    · exact counted _
    · split
      · exact counted _
      · split
        · exact counted _
        · exact (Quiet.refl s).congr rfl

theorem State.foldSpectral_quiet (s : State) (f : Fold) (x : SpectralEntry) (v : Bool) : Quiet s (s.foldSpectral f x v) :=
  (s.compareSequence_quiet _).trans (State.foldSweep_quiet _ f x v)

theorem State.foldFrameEvidence_quiet (s : State) (f : Fold) (x : ReceiveEntry) (v n : Bool) (k : CellStep) :
    Quiet s (s.foldFrameEvidence f x v n k) := by
  unfold State.foldFrameEvidence
  split
  · exact s.endFold_quiet
  · split
    · exact s.giveEvidence_quiet ..
    · exact s.endFold_quiet

theorem State.foldReceive_quiet (s : State) (f : Fold) (x : ReceiveEntry) (v n : Bool) : Quiet s (s.foldReceive f x v n) := by
  unfold State.foldReceive
  split
  · exact s.foldFrameEvidence_quiet ..
  · split
    · exact s.endFold_quiet
    · exact (Quiet.refl s).congr rfl
  · exact ((Quiet.refl s).count _).trans (State.endFold_quiet _)
  · exact s.endFold_quiet

theorem State.foldCompletion_quiet (s : State) (f : Fold) (x : CompletionEntry) (v : Bool) :
    Quiet s (s.foldCompletion f x v) := by
  unfold State.foldCompletion
  split
  · exact s.giveEvidence_quiet ..
  · exact s.endFold_quiet

/-! ### The tracker -/

theorem State.relockClear_quiet (s : State) : Quiet s s.relockClear := by
  unfold State.relockClear
  split
  · exact (Quiet.refl s).congr rfl
  · exact .refl s

theorem State.gainLock_quiet (s : State) (t : Time) (p : Nat) : Quiet s (s.gainLock t p) :=
  (((Quiet.refl s).setFlag _).trans (State.relockClear_quiet _)).congr rfl

theorem State.referenceInLocking_quiet (s : State) (t : Time) (p : Int) : Quiet s (s.referenceInLocking t p) := by
  unfold State.referenceInLocking
  split
  · exact ((Quiet.refl s).count .periodFault).congr rfl
  · split
    · exact (Quiet.refl s).congr rfl
    · split
      · exact s.gainLock_quiet ..
      · exact (Quiet.refl s).congr rfl

theorem State.referenceInLocked_quiet (s : State) (t : Time) (p : Int) : Quiet s (s.referenceInLocked t p) := by
  unfold State.referenceInLocked
  split
  · exact ((Quiet.refl s).count .periodFault).congr rfl
  · split <;> exact (Quiet.refl s).congr rfl

theorem State.referenceInCoasting_quiet (s : State) (t : Time) (p : Int) : Quiet s (s.referenceInCoasting t p) := by
  unfold State.referenceInCoasting
  split
  · exact ((Quiet.refl s).count .periodFault).congr rfl
  · split <;> exact (Quiet.refl s).congr rfl

theorem State.referenceInSeeking_quiet (s : State) (t : Time) (p : Int) : Quiet s (s.referenceInSeeking t p) := by
  unfold State.referenceInSeeking
  split
  · exact ((Quiet.refl s).count .periodFault).congr rfl
  · exact (Quiet.refl s).congr rfl

theorem State.referenceEdge_quiet (s : State) (t : Time) : Quiet s (s.referenceEdge t) := by
  unfold State.referenceEdge
  split
  · exact .refl s
  · exact (Quiet.refl s).congr rfl
  · exact (Quiet.refl s).congr rfl
  · exact s.referenceInSeeking_quiet ..
  · exact s.referenceInLocking_quiet ..
  · exact s.referenceInLocked_quiet ..
  · exact s.referenceInCoasting_quiet ..

theorem State.acceptEdge_quiet (s : State) (t : Time) : Quiet s (s.acceptEdge t) := by
  simp only [State.acceptEdge]
  split
  · exact ((Quiet.refl s).count .acceptedEdge).congr rfl
  · exact ((Quiet.refl s).count .acceptedEdge).trans ((State.referenceEdge_quiet _ t).after rfl)

theorem State.considerEdge_quiet (s : State) (t : Time) : Quiet s (s.considerEdge t) := by
  unfold State.considerEdge
  split
  · exact s.acceptEdge_quiet t
  · exact (Quiet.refl s).count _

theorem State.mainsTransition_quiet (s : State) (r : Bool) : Quiet s (s.mainsTransition r) := by
  simp only [State.mainsTransition]
  split
  · exact (Quiet.refl s).congr rfl
  · split
    · exact (State.considerEdge_quiet _ _).after rfl
    · exact (Quiet.refl s).congr rfl

theorem State.takeLockExpiry_quiet (s : State) : Quiet s s.takeLockExpiry := by
  unfold State.takeLockExpiry
  split
  · exact (Quiet.refl s).congr rfl
  · exact .refl s

theorem State.takeCoastExpiry_quiet (s : State) : Quiet s s.takeCoastExpiry := by
  unfold State.takeCoastExpiry
  split
  · split
    · exact (Quiet.refl s).congr rfl
    · exact ((Quiet.refl s).setFlag .lockLost).congr rfl
  · exact .refl s

theorem State.takeTrackerExpiry_quiet (s : State) : Quiet s s.takeTrackerExpiry := by
  unfold State.takeTrackerExpiry
  split
  · exact s.takeLockExpiry_quiet
  · exact s.takeCoastExpiry_quiet
  · exact .refl s

/-! ### The Map and the Schedule -/

theorem State.recount_quiet (s : State) : Quiet s s.recount := by
  simp only [State.recount]
  split
  · exact ((Quiet.refl s).congr (by rfl)).setFlag _
  · exact (Quiet.refl s).congr rfl

theorem State.serveEvidence_quiet (s : State) (e : Evidence) : Quiet s (s.serveEvidence e) := by
  unfold State.serveEvidence
  exact (State.recount_quiet _).after rfl

theorem State.serveSettings_quiet (s : State) (m : MapSettings) : Quiet s (s.serveSettings m) := by
  unfold State.serveSettings
  exact (State.recount_quiet _).after rfl

theorem State.serveAge_quiet (s : State) : Quiet s s.serveAge := by
  unfold State.serveAge
  split
  · exact (State.recount_quiet _).after rfl
  · split <;> exact (State.recount_quiet _).after rfl

theorem State.takeSnapshot_quiet (s : State) : Quiet s s.takeSnapshot := by
  obtain ⟨_, h⟩ := s.takeSnapshot_touches
  rw [h]
  exact (Quiet.refl s).congr rfl

theorem State.takeMiss_quiet (s : State) (i : Fin 8) : Quiet s (s.takeMiss i) := by
  obtain ⟨_, h⟩ := s.takeMiss_touches i
  rw [h]
  exact (Quiet.refl s).congr rfl

theorem State.armSlot_quiet (s : State) (i : Fin 8) (e : Neighbour) : Quiet s (s.armSlot i e) := by
  obtain ⟨_, h⟩ := s.armSlot_touches i e
  rw [h]
  exact (Quiet.refl s).congr rfl

theorem State.updateEntry_quiet (s : State) (i : Fin 8) (e : Neighbour) (u : BeaconUpdate) :
    Quiet s (s.updateEntry i e u) := by
  unfold State.updateEntry
  split
  · exact ((Quiet.refl s).count _).trans (State.armSlot_quiet ..)
  · split
    · exact s.armSlot_quiet ..
    · split
      · exact (Quiet.refl s).congr rfl
      · exact ((Quiet.refl s).count _).trans (State.armSlot_quiet ..)

theorem State.takeNewcomer_quiet (s : State) (u : BeaconUpdate) : Quiet s (s.takeNewcomer u) := by
  unfold State.takeNewcomer
  split
  · exact s.armSlot_quiet ..
  · split
    · exact .refl s
    · split
      · exact ((Quiet.refl s).setFlag _).count _
      · exact ((Quiet.refl s).count _).trans (State.armSlot_quiet ..)

theorem State.serveUpdate_quiet (s : State) (u : BeaconUpdate) : Quiet s (s.serveUpdate u) := by
  unfold State.serveUpdate
  split
  · exact (Quiet.refl s).count _
  · split
    · exact s.takeNewcomer_quiet u
    · split
      · exact s.updateEntry_quiet ..
      · exact .refl s

theorem State.missBeacon_quiet (s : State) (i : Fin 8) (e : Neighbour) : Quiet s (s.missBeacon i e) := by
  unfold State.missBeacon
  split
  · exact ((Quiet.refl s).congr (by rfl)).count _
  · exact s.armSlot_quiet ..

theorem State.serveExpiry_quiet (s : State) (i : Fin 8) (a : BitVec 48) : Quiet s (s.serveExpiry i a) := by
  unfold State.serveExpiry
  split
  · split
    · exact s.missBeacon_quiet ..
    · exact .refl s
  · exact .refl s

theorem State.serveNeighbourSettings_quiet (s : State) (n : NeighbourFields) : Quiet s (s.serveNeighbourSettings n) := by
  obtain ⟨_, h⟩ := s.serveNeighbourSettings_touches n
  rw [h]
  exact (Quiet.refl s).congr rfl

/-! ### The pending transmit list and the admissions -/

theorem State.takeStale_quiet (s : State) (i : Nat) : Quiet s (s.takeStale i) := by
  unfold State.takeStale
  split
  · split
    · exact ((Quiet.refl s).congr (by rfl)).count _
    · exact .refl s
  · exact .refl s

theorem State.abandon_quiet (s : State) (i : Nat) : Quiet s (s.abandon i) := by
  unfold State.abandon
  split
  · exact ((Quiet.refl s).congr (by rfl)).count _
  · exact .refl s

theorem State.abandonments_quiet (s : State) (addr : Addr) (n : Nat) : Quiet s (s.abandonments addr n) := by
  unfold State.abandonments
  split
  · exact Quiet.foldl State.abandon_quiet _ s
  · exact .refl s

theorem State.makeRoom_quiet (s : State) : Quiet s s.makeRoom := by
  unfold State.makeRoom
  split
  · exact (((Quiet.refl s).congr (by rfl)).setFlag _).count _
  · exact .refl s

theorem State.openEntry_quiet (s : State) (e : PendingEntry) : Quiet s (s.openEntry e) := by
  simp only [State.openEntry]
  split
  · exact s.makeRoom_quiet.count _
  · exact s.makeRoom_quiet.congr rfl

theorem State.reachRewriter_quiet (s : State) (i : Nat) (w : Words8) (t : Time) : Quiet s (s.reachRewriter i w t) := by
  unfold State.reachRewriter
  split
  · exact (Quiet.refl s).congr rfl
  · split
    · exact ((Quiet.refl s).count .repeated).congr rfl
    · exact (((Quiet.refl s).congr (by rfl)).count .superseded).congr rfl

theorem State.passOn_quiet (s : State) (p : Piece) : Quiet s (s.passOn p) := by
  unfold State.passOn
  split
  · exact (Quiet.refl s).congr rfl
  · exact s.reachRewriter_quiet ..

theorem State.passOnAll_quiet (s : State) (ps : List Piece) : Quiet s (s.passOnAll ps).1 := by
  induction ps generalizing s with
  | nil => exact .refl s
  | cons p rest ih =>
    unfold State.passOnAll
    split
    · exact .refl s
    · exact (s.passOn_quiet p).trans (ih _)

theorem State.keepReading_quiet (s : State) (a : List Segment) (b : List Piece) : Quiet s (s.keepReading a b) := by
  unfold State.keepReading
  split <;> exact (Quiet.refl s).congr rfl

theorem State.continueRead_quiet (s : State) (a : List Segment) (ps : List Piece) : Quiet s (s.continueRead a ps) :=
  (s.passOnAll_quiet ps).trans (State.keepReading_quiet _ _ _)

theorem State.endAdmission_quiet (s : State) (v : AdmissionView) : Quiet s (s.endAdmission v) := by
  have opened := ((Quiet.refl s).count v.verdict.decision.counter).count v.verdict.reason.counter |>.trans
    ((State.openEntry_quiet
      { (s.count v.verdict.decision.counter).count v.verdict.reason.counter with
        admission := { relief := reliefAfter v.verdict.decision s.admission.relief, inProgress := none } }
      (v.entry s.policy.shaping.timeoutMs)).after rfl)
  simp only [State.endAdmission]
  split
  · exact opened.trans ((State.continueRead_quiet _ _ _).after rfl)
  · exact opened.congr rfl

theorem State.pushEvidence_quiet (s : State) (e : PendingEntry) (a b : Word) : Quiet s (s.pushEvidence e a b) := by
  unfold State.pushEvidence
  split
  · split
    · exact .refl s
    · exact s.arrive_quiet _
  · exact .refl s

theorem State.complete_quiet (s : State) (i : Nat) (a b : Word) : Quiet s (s.complete i a b) := by
  unfold State.complete
  split
  · exact (((Quiet.refl s).congr (by rfl)).count .matched).trans (State.pushEvidence_quiet ..)
  · exact (Quiet.refl s).count _

/-! ### The transfers -/

theorem State.nextCompletion_quiet (s : State) : Quiet s s.nextCompletion := by
  unfold State.nextCompletion
  split
  · exact (s.complete_quiet ..).congr rfl
  · exact .refl s

theorem State.nextRecord_quiet (s : State) : Quiet s s.nextRecord := by
  unfold State.nextRecord
  split
  · exact (s.arriveRecord_quiet ..).congr rfl
  · exact .refl s

theorem State.takeTxWrite_quiet (s : State) (addr : Addr) (words : List WriteWord) : Quiet s (s.takeTxWrite addr words) := by
  unfold State.takeTxWrite
  split <;> exact (Quiet.refl s).congr rfl

theorem State.takeRxWrite_quiet (s : State) (addr : Addr) (words : List WriteWord) : Quiet s (s.takeRxWrite addr words) := by
  unfold State.takeRxWrite
  split <;> exact (Quiet.refl s).congr rfl

theorem State.takeTxRead_quiet (s : State) (addr : Addr) (ws : List Word) : Quiet s (s.takeTxRead addr ws) := by
  simp only [State.takeTxRead]
  split
  · exact (Quiet.refl s).congr rfl
  · exact (State.continueRead_quiet _ _ _).after rfl

theorem State.takeCpuRead_quiet (s : State) (addr : Addr) (ws : List Word) : Quiet s (s.takeCpuRead addr ws) := by
  simp only [State.takeCpuRead]
  split
  · exact (Quiet.refl s).congr rfl
  · split <;> exact (Quiet.refl s).congr rfl

theorem State.takeRead_quiet (s : State) (tag : Tag) (addr : Addr) (ws : List Word) : Quiet s (s.takeRead tag addr ws) := by
  unfold State.takeRead
  split
  · exact s.takeCpuRead_quiet ..
  · exact s.takeTxRead_quiet ..
  · exact (Quiet.refl s).congr rfl
  · exact (Quiet.refl s).congr rfl

theorem State.returnSegment_quiet (s : State) (g : Segment) : Quiet s (s.returnSegment g).1 := by
  unfold State.returnSegment
  split
  · exact .refl s
  · dsimp only
    split
    · exact (Quiet.refl s).count _
    · exact .refl s
  · exact .refl s

theorem State.nextDescriptor_quiet (s : State) : Quiet s s.nextDescriptor := by
  simp only [State.nextDescriptor]
  split
  · exact (s.returnSegment_quiet _).trans (State.continueRead_quiet _ _ _)
  · exact .refl s

theorem State.nextReportWord_quiet (s : State) : Quiet s s.nextReportWord := by
  simp only [State.nextReportWord]
  split
  · split
    · exact (State.takeSnapshot_quiet _).after rfl
    · exact (Quiet.refl s).congr rfl
  · exact .refl s

end Sys2Proof.Machine
end

section
/-! Control records on the bus (R12, R13): when the U-port takes one, what its frame holds, and what the rest of the taking does. -/

namespace Sys2Proof.Machine

/-! ### The eight words and the frames -/

theorem toList_ofList {l : List Word} (h : l.length = 8) : (Words8.ofList l).toList = l := by
  match l, h with
  | [_, _, _, _, _, _, _, _], _ => rfl

@[simp] theorem recordWords_toWrite (w : Words8) : recordWords w.toWrite = w := rfl

theorem toWrite_injective {v w : Words8} (h : v.toWrite = w.toWrite) : v = w := by
  rw [← recordWords_toWrite v, h, recordWords_toWrite]

@[simp] theorem toWrite_length (w : Words8) : w.toWrite.length = 8 := rfl

@[simp] theorem kindCode_recordFrame (kind : BitVec 8) (body : RecordBody) : (recordFrame kind body).kindCode = kind :=
  BitVec.extractLsb'_append_eq_right

@[simp] theorem sequence_recordFrame (kind : BitVec 8) (body : RecordBody) :
    (recordFrame kind body).sequence = body.sequence :=
  (BitVec.extractLsb'_append_eq_of_le (xhi := body.high ++ body.sequence) (xlo := kind) (len := 8) le_rfl).trans
    BitVec.extractLsb'_append_eq_right

@[simp] theorem kindCode_clearFrame (bit : Nat) (body : RecordBody) : (clearFrame bit body).kindCode = 11#8 :=
  kindCode_recordFrame 11#8 body

@[simp] theorem sequence_clearFrame (bit : Nat) (body : RecordBody) : (clearFrame bit body).sequence = body.sequence :=
  sequence_recordFrame 11#8 body

/-- The conditions of a control-record candidate (R12): eight words with every byte enable set, the marker first, at a multiple
of 32, outside every window. -/
theorem isControlRecord_iff (windows : Option Windows) (addr : Addr) (words : List WriteWord) :
    isControlRecord windows addr words = true ↔ (∃ w : Words8, w.w0 = Config.marker ∧ words = w.toWrite) ∧
      addr.toNat % 32 = 0 ∧ ∀ i, i < 8 → ∀ w, windows = some w → w.inside (addr.toNat + 4 * i) = false := by
  have outside : (List.range 8).all (fun i => outsideWindows windows (wordAddress addr i)) = true ↔
      ∀ i, i < 8 → ∀ w, windows = some w → w.inside (addr.toNat + 4 * i) = false := by
    cases windows <;> simp [outsideWindows, wordAddress]
  simp only [isControlRecord, Bool.and_eq_true, outside, decide_eq_true_eq]
  constructor
  · rintro ⟨⟨⟨⟨length, aligned⟩, enabled⟩, out⟩, marked⟩
    refine ⟨⟨recordWords words, ?_, ?_⟩, aligned, out⟩
    · cases words with
      | nil => simp at length
      | cons a rest => simpa [recordWords, Words8.ofList] using marked
    · rw [Words8.toWrite, recordWords, toList_ofList (by simpa using length), List.map_map]
      refine (List.map_id words).symm.trans (List.map_congr_left fun a ha => ?_)
      have : a.enables = 0xF#4 := by simpa using List.all_eq_true.1 enabled a ha
      simp [← this]
  · rintro ⟨⟨w, marked, rfl⟩, aligned, out⟩
    refine ⟨⟨⟨⟨rfl, aligned⟩, rfl⟩, out⟩, ?_⟩
    simp [Words8.toWrite, Words8.toList, marked]

/-- A row of the table that names a record presents its frame. -/
theorem presented_of_recordRow {c : Instr} {addr : Addr} {body : RecordBody} {kind : BitVec 8} {w2 : Word}
    (h : RecordRow c addr body kind w2) :
    presented c = some (.write .cpu addr ({ recordFrame kind body with w2 := w2 } : Words8).toWrite) := by
  rcases h with ⟨rfl, rfl | h⟩ | ⟨rfl, value, rfl, h⟩ | ⟨rfl, bit, rfl, h⟩
  · rfl
  · simp only [List.mem_cons, Prod.mk.injEq, List.not_mem_nil, or_false] at h
    rcases h with ⟨rfl, rfl⟩ | ⟨rfl, rfl⟩ | ⟨rfl, rfl⟩ | ⟨rfl, rfl⟩ | ⟨rfl, rfl⟩ | ⟨rfl, rfl⟩ | ⟨rfl, rfl⟩ | ⟨rfl, rfl⟩ |
      ⟨rfl, rfl⟩ | ⟨rfl, rfl⟩ <;> rfl
  · rcases h with ⟨rfl, rfl⟩ | ⟨rfl, rfl⟩ | rfl <;> rfl
  · simp only [List.mem_cons, Prod.mk.injEq, List.not_mem_nil, or_false] at h
    rcases h with ⟨rfl, rfl⟩ | ⟨rfl, rfl⟩ | ⟨rfl, rfl⟩ <;> rfl

/-- A row that presents the words of a record writes that record. -/
theorem writesRecord_of_row {c : Instr} {a addr : Addr} {body : RecordBody} {kind : BitVec 8} {v w : Words8}
    (h : some (Transfer.write .cpu a v.toWrite) = some (.write .cpu addr w.toWrite))
    (frame : v = { recordFrame kind body with w2 := v.w2 }) (row : RecordRow c a body kind v.w2) :
    WritesRecord c addr w := by
  simp only [Option.some.injEq, Transfer.write.injEq, true_and] at h
  obtain ⟨rfl, words⟩ := h
  obtain rfl := toWrite_injective words
  rw [frame] at row ⊢
  exact ⟨rfl, .inr (.inr ⟨body, kind, row, rfl, rfl, rfl, rfl, rfl, rfl⟩)⟩

/-- A control record is written exactly by the commands that present its words, the marker first. -/
theorem writesRecord_iff (c : Instr) (addr : Addr) (w : Words8) :
    WritesRecord c addr w ↔ w.w0 = Config.marker ∧ presented c = some (.write .cpu addr w.toWrite) := by
  constructor
  · rintro ⟨marked, rfl | rfl | ⟨body, kind, row, h1, h3, h4, h5, h6, h7⟩⟩
    · exact ⟨marked, rfl⟩
    · exact ⟨marked, rfl⟩
    · refine ⟨marked, (presented_of_recordRow row).trans ?_⟩
      obtain ⟨w0, w1, w2, w3, w4, w5, w6, w7⟩ := w
      subst marked h1 h3 h4 h5 h6 h7
      rfl
  · rintro ⟨marked, h⟩
    cases c with
    | transfer t => cases h; exact ⟨marked, .inl rfl⟩
    | possibleAbandonment a words => cases h; exact ⟨marked, .inr (.inl rfl)⟩
    | descriptorRead e => cases e <;> cases h
    | reportRead e => cases e <;> cases h
    | completionCandidate a e => cases e <;> cases h
    | receiveRecordIntake a e => cases e <;> cases h
    | unknownKind a kind body => exact writesRecord_of_row h rfl (.inl ⟨rfl, .inl rfl⟩)
    | windows a body => exact writesRecord_of_row h rfl (.inl ⟨rfl, .inr (by simp)⟩)
    | radio a body => exact writesRecord_of_row h rfl (.inl ⟨rfl, .inr (by simp)⟩)
    | ratesLow a body => exact writesRecord_of_row h rfl (.inl ⟨rfl, .inr (by simp)⟩)
    | ratesHigh a body => exact writesRecord_of_row h rfl (.inl ⟨rfl, .inr (by simp)⟩)
    | mains a body => exact writesRecord_of_row h rfl (.inl ⟨rfl, .inr (by simp)⟩)
    | map a body => exact writesRecord_of_row h rfl (.inl ⟨rfl, .inr (by simp)⟩)
    | neighbour a body => exact writesRecord_of_row h rfl (.inl ⟨rfl, .inr (by simp)⟩)
    | shaping a body => exact writesRecord_of_row h rfl (.inl ⟨rfl, .inr (by simp)⟩)
    | acknowledge a body => exact writesRecord_of_row h rfl (.inl ⟨rfl, .inr (by simp)⟩)
    | restart a body => exact writesRecord_of_row h rfl (.inl ⟨rfl, .inr (by simp)⟩)
    | keepaliveRefresh a body => exact writesRecord_of_row h rfl (.inr (.inl ⟨rfl, _, rfl, .inl ⟨rfl, rfl⟩⟩))
    | keepaliveRelease a body => exact writesRecord_of_row h rfl (.inr (.inl ⟨rfl, _, rfl, .inr (.inl ⟨rfl, rfl⟩)⟩))
    | keepaliveValue a value body => exact writesRecord_of_row h rfl (.inr (.inl ⟨rfl, _, rfl, .inr (.inr rfl)⟩))
    | clearMap a body => exact writesRecord_of_row h rfl (.inr (.inr ⟨rfl, 0, rfl, by simp⟩))
    | clearNeighbours a body => exact writesRecord_of_row h rfl (.inr (.inr ⟨rfl, 1, rfl, by simp⟩))
    | clearCounters a body => exact writesRecord_of_row h rfl (.inr (.inr ⟨rfl, 2, rfl, by simp⟩))
    | _ => cases h

/-- A command that writes a control record does what a CPU write of its words does. -/
theorem exec_of_writesRecord {c : Instr} {addr : Addr} {w : Words8} (h : WritesRecord c addr w) (s : State) :
    exec c s = .next (s.takeTransfer (.write .cpu addr w.toWrite)).driveLines :=
  exec_of_presented ((writesRecord_iff c addr w).1 h).2 s

/-! ### Taking a record -/

/-- The state in which the Policy Unit finds a record: its write has gone to memory as it arrived (R13). -/
def State.carried (s : State) (addr : Addr) (w : Words8) : State := s.forward (forwardedWrite .cpu addr w.toWrite)

/-- A control record that the U-port can take reaches the check of its sum. -/
theorem takeTransfer_record {s : State} {addr : Addr} {w : Words8} (h : TakesRecord s addr) (marked : w.w0 = Config.marker) :
    s.takeTransfer (.write .cpu addr w.toWrite) = (s.carried addr w).checkRecord w := by
  obtain ⟨observing, service, aligned, outside⟩ := h
  have record : isControlRecord s.bus.windows addr w.toWrite = true :=
    (isControlRecord_iff ..).2 ⟨⟨w, marked, rfl⟩, aligned, outside⟩
  simp [State.takeTransfer, service, observing, State.takeWrite, State.takeCpuWrite, record, State.carried]

/-- The sum of a record decides whether it is judged (R13). -/
theorem checkRecord_of_sum {s : State} {w : Words8} (h : w.sum = 0#32) : s.checkRecord w = s.judgeRecord w := by
  simp [State.checkRecord, h]

theorem checkRecord_of_sum_ne {s : State} {w : Words8} (h : w.sum ≠ 0#32) : s.checkRecord w = s.count .checksumFail := by
  simp [State.checkRecord, h]

/-- What the U-port does with a transfer: one case for each course of the Classifier (R2, R4, R12, R16). -/
inductive Taking (s : State) : Transfer → State → Prop
  | refused {x : Transfer} : s.bus.service ≠ none → Taking s x s
  | passed {x : Transfer} : s.bus.service = none → s.bus.observing = false → Taking s x (s.passThrough x)
  | read {tag : Tag} {addr : Addr} {ws : List Word} : s.bus.service = none → s.bus.observing = true →
      Taking s (.read tag addr ws) (s.takeRead tag addr ws)
  | txWrite {addr : Addr} {words : List WriteWord} : s.bus.service = none → s.bus.observing = true →
      Taking s (.write .txDma addr words) (s.takeTxWrite addr words)
  | rxWrite {addr : Addr} {words : List WriteWord} : s.bus.service = none → s.bus.observing = true →
      Taking s (.write .rxDma addr words) (s.takeRxWrite addr words)
  | otherWrite {addr : Addr} {words : List WriteWord} : s.bus.service = none → s.bus.observing = true →
      Taking s (.write .other addr words) (s.forward (forwardedWrite .other addr words))
  | cpuWrite {addr : Addr} {words : List WriteWord} : s.bus.service = none → s.bus.observing = true →
      isControlRecord s.bus.windows addr words = false →
      Taking s (.write .cpu addr words) ((s.forward (forwardedWrite .cpu addr words)).abandonments addr words.length)
  | record {addr : Addr} {w : Words8} : TakesRecord s addr → w.w0 = Config.marker →
      Taking s (.write .cpu addr w.toWrite) ((s.carried addr w).checkRecord w)

/-- The taking of a transfer runs one of the courses. -/
theorem taking (s : State) (x : Transfer) : Taking s x (s.takeTransfer x) := by
  by_cases idle : s.bus.service = none
  case neg =>
    rw [show s.takeTransfer x = s by simp [State.takeTransfer, Option.isSome_iff_ne_none, idle]]
    exact .refused idle
  by_cases observing : s.bus.observing = true
  case neg =>
    rw [show s.takeTransfer x = s.passThrough x by simp [State.takeTransfer, idle, observing]]
    exact .passed idle (by simpa using observing)
  cases x with
  | read tag addr ws =>
    rw [show s.takeTransfer (.read tag addr ws) = s.takeRead tag addr ws by simp [State.takeTransfer, idle, observing]]
    exact .read idle observing
  | write tag addr words =>
    have taken : s.takeTransfer (.write tag addr words) = s.takeWrite tag addr words := by
      simp [State.takeTransfer, idle, observing]
    rw [taken]
    cases tag with
    | txDma => exact .txWrite idle observing
    | rxDma => exact .rxWrite idle observing
    | other => exact .otherWrite idle observing
    | cpu =>
      by_cases record : isControlRecord s.bus.windows addr words = true
      · obtain ⟨⟨w, marked, rfl⟩, aligned, outside⟩ := (isControlRecord_iff ..).1 record
        rw [← taken, takeTransfer_record ⟨observing, idle, aligned, outside⟩ marked]
        exact .record ⟨observing, idle, aligned, outside⟩ marked
      · rw [Bool.not_eq_true] at record
        rw [show s.takeWrite .cpu addr words =
          (s.forward (forwardedWrite .cpu addr words)).abandonments addr words.length by
            simp [State.takeWrite, State.takeCpuWrite, record]]
        exact .cpuWrite idle observing record

/-- The taking of a transfer is quiet, unless it is that of a control record with a sum of 0. -/
theorem takeTransfer_cases (s : State) (x : Transfer) : Quiet s (s.takeTransfer x) ∨
    ∃ addr w, x = .write .cpu addr w.toWrite ∧ w.w0 = Config.marker ∧ TakesRecord s addr ∧ w.sum = 0#32 ∧
      s.takeTransfer x = (s.carried addr w).judgeRecord w := by
  have course := taking s x
  generalize s.takeTransfer x = u at course ⊢
  cases course with
  | refused => exact .inl (.refl s)
  | passed =>
    left
    unfold State.passThrough
    split <;> exact (Quiet.refl s).congr rfl
  | read => exact .inl (s.takeRead_quiet ..)
  | txWrite => exact .inl (s.takeTxWrite_quiet ..)
  | rxWrite => exact .inl (s.takeRxWrite_quiet ..)
  | otherWrite => exact .inl ((Quiet.refl s).congr rfl)
  | cpuWrite => exact .inl ((State.abandonments_quiet _ _ _).after rfl)
  | @record addr w takes marked =>
    by_cases sum : w.sum = 0#32
    · exact .inr ⟨addr, w, rfl, marked, takes, sum, checkRecord_of_sum sum⟩
    · rw [checkRecord_of_sum_ne sum]
      exact .inl (((Quiet.refl s).congr (by rfl)).count _)

/-- Every effect is quiet, but for the tick, the microsecond, a pin reset, and a control record that is judged. -/
theorem Effect.quiet_or {c : Instr} {s u : State} (e : Effect c s u) : Quiet s u ∨ u = s.takeTick ∨ u = s.tickMicrosecond ∨
    (c = .pinReset ∧ u = s.assertReset) ∨
    ∃ addr w, WritesRecord c addr w ∧ TakesRecord s addr ∧ w.sum = 0#32 ∧ u = (s.carried addr w).judgeRecord w := by
  have popMap : Quiet s s.popMap := (Quiet.refl s).congr rfl
  have popSchedule : Quiet s s.popSchedule := (Quiet.refl s).congr rfl
  cases e with
  | idle => exact .inl (.refl s)
  | pinReset h => exact .inr (.inr (.inr (.inl ⟨h, rfl⟩)))
  | released => exact .inl ((Quiet.refl s).congr rfl)
  | @presents x h =>
    obtain q | ⟨addr, w, rfl, marked, takes, sum, taken⟩ := takeTransfer_cases s x
    · exact .inl q
    · exact .inr (.inr (.inr (.inr ⟨addr, w, (writesRecord_iff ..).2 ⟨marked, h⟩, takes, sum, taken⟩)))
  | tick => exact .inr (.inl rfl)
  | microsecond => exact .inr (.inr (.inl rfl))
  | descriptor => exact .inl s.nextDescriptor_quiet
  | reportWord => exact .inl s.nextReportWord_quiet
  | completionWord => exact .inl s.nextCompletion_quiet
  | record => exact .inl s.nextRecord_quiet
  | admission => exact .inl (s.endAdmission_quiet _)
  | stale i => exact .inl (s.takeStale_quiet i)
  | mainsEdge r => exact .inl (s.mainsTransition_quiet r)
  | lockExpiry => exact .inl s.takeLockExpiry_quiet
  | coastExpiry => exact .inl s.takeCoastExpiry_quiet
  | spectralFold => exact .inl (s.startFold_quiet.trans (State.foldSpectral_quiet ..))
  | receiveFold => exact .inl (s.startFold_quiet.trans (State.foldReceive_quiet ..))
  | completionFold => exact .inl (s.startFold_quiet.trans (State.foldCompletion_quiet ..))
  | evidence => exact .inl ((popMap.trans (State.serveEvidence_quiet ..)).trans (State.endFoldIf_quiet ..))
  | age => exact .inl (popMap.trans (State.serveAge_quiet _))
  | mapClear => exact .inl ((Quiet.refl s).congr rfl)
  | mapSettings => exact .inl (popMap.trans (State.serveSettings_quiet ..))
  | snapshot => exact .inl s.takeSnapshot_quiet
  | beaconUpdate => exact .inl ((popSchedule.trans (State.serveUpdate_quiet ..)).trans (State.endFoldIf_quiet ..))
  | missExpiry i => exact .inl (s.takeMiss_quiet i)
  | missedBeacon => exact .inl (popSchedule.trans (State.serveExpiry_quiet ..))
  | neighbourClear => exact .inl ((Quiet.refl s).congr rfl)
  | neighbourSettings => exact .inl (popSchedule.trans (State.serveNeighbourSettings_quiet ..))

end Sys2Proof.Machine
end

section
/-! The Policy Unit's judgement (chapter 9), kind by kind: what it leaves of the Report Unit, of the policy and of the ports. -/

namespace Sys2Proof.Machine

/-! ### What a judgement reports -/

theorem State.accept_tallied (s : State) (w : Words8) : Tallied s (s.accept w) :=
  ((Tallied.refl s).setFlag .policyAccepted).congr rfl

theorem State.refuse_tallied (s : State) (w : Words8) (r : RejectReason) : Tallied s (s.refuse w r) :=
  (((Tallied.refl s).setFlag .policyRejected).congr (by rfl)).count .reject

theorem State.countClamp_quiet (s : State) (b : Bool) : Quiet s (s.countClamp b) := by
  unfold State.countClamp
  split
  · exact (Quiet.refl s).count _
  · exact .refl s

theorem State.acceptConfiguration_tallied (s : State) (w : Words8) (k : Nat) (b : Bool) :
    Tallied s (s.acceptConfiguration w k b) :=
  ((s.countClamp_quiet b).toTallied.trans (State.accept_tallied _ w)).congr rfl

/-- A change of the RADIO fields leaves the policy, its copies and the Report Unit alone. -/
theorem State.radioChange_quiet (s : State) (a b : RadioFields) : Quiet s (s.radioChange a b) := by
  obtain ⟨_, _, _, _, h⟩ := s.radioChange_touches a b
  rw [h]
  exact (Quiet.refl s).congr rfl

theorem State.judgeWindows_tallied (s : State) (w : Words8) : Tallied s (s.judgeWindows w) := by
  unfold State.judgeWindows
  split
  · exact s.refuse_tallied ..
  · exact (s.acceptConfiguration_tallied w 1 false).congr rfl

theorem State.judgeRadio_tallied (s : State) (w : Words8) : Tallied s (s.judgeRadio w) := by
  unfold State.judgeRadio
  split
  · exact s.refuse_tallied ..
  · exact ((s.acceptConfiguration_tallied w 2 _).congr (by rfl)).trans (State.radioChange_quiet _ _ _).toTallied

theorem State.trackerSettings_tallied (s : State) (m : EdgeMode) (n : Nat) : Tallied s (s.trackerSettings m n) := by
  unfold State.trackerSettings
  split <;> exact (Tallied.refl s).congr rfl

theorem State.judgeMains_tallied (s : State) (w : Words8) : Tallied s (s.judgeMains w) :=
  ((s.acceptConfiguration_tallied w 5 _).congr (by rfl)).trans (State.trackerSettings_tallied _ _ _)

theorem State.judgeKeepalive_tallied (s : State) (w : Words8) : Tallied s (s.judgeKeepalive w) := by
  have accepted : ∀ p, Tallied s { (s.countClamp (field w.w2 16 8 == 0)).accept w with
      policy := { ((s.countClamp (field w.w2 16 8 == 0)).accept w).policy with keepalivePeriod := p } } := fun p =>
    ((s.countClamp_quiet _).toTallied.trans (State.accept_tallied _ w)).congr rfl
  simp only [State.judgeKeepalive]
  split
  · split
    · exact s.refuse_tallied ..
    · obtain ⟨_, _, h⟩ := State.refreshKeepalive_touches
        { (s.countClamp (field w.w2 16 8 == 0)).accept w with
          policy := { ((s.countClamp (field w.w2 16 8 == 0)).accept w).policy with
            keepalivePeriod := atLeastOne (field w.w2 16 8) } } (atLeastOne (field w.w2 16 8))
      rw [h]
      exact (accepted (atLeastOne (field w.w2 16 8))).congr rfl
  · split
    · obtain ⟨_, h⟩ := State.releaseKeepalive_touches
        { (s.countClamp (field w.w2 16 8 == 0)).accept w with
          policy := { ((s.countClamp (field w.w2 16 8 == 0)).accept w).policy with
            keepalivePeriod := atLeastOne (field w.w2 16 8) } }
      rw [h]
      exact (accepted (atLeastOne (field w.w2 16 8))).congr rfl
    · exact s.refuse_tallied ..

theorem State.judgeRates_tallied (s : State) (w : Words8) (k b : Nat) : Tallied s (s.judgeRates w k b) := by
  unfold State.judgeRates
  exact (s.acceptConfiguration_tallied w k false).congr rfl

theorem State.judgeMap_tallied (s : State) (w : Words8) : Tallied s (s.judgeMap w) := by
  unfold State.judgeMap
  exact (s.acceptConfiguration_tallied w 6 (w.mapCarried.clamped != w.mapCarried)).congr rfl

theorem State.judgeNeighbour_tallied (s : State) (w : Words8) : Tallied s (s.judgeNeighbour w) := by
  unfold State.judgeNeighbour
  exact (s.acceptConfiguration_tallied w 7 (w.neighbourCarried.clamped != w.neighbourCarried)).congr rfl

theorem State.judgeShaping_tallied (s : State) (w : Words8) : Tallied s (s.judgeShaping w) := by
  unfold State.judgeShaping
  exact (s.acceptConfiguration_tallied w 8 (w.shapingCarried.timeoutMs == 0)).congr rfl

/-- Everything that a CLEAR record does to each block: its bits act on their own. -/
theorem State.judgeClear_eq (s : State) (w : Words8) : s.judgeClear w = { s.accept w with
    intake := { s.intake with fifo := s.intake.fifo.map fun e => { e with
      voidMap := e.voidMap || flagBit w.w2 0, voidNeighbour := e.voidNeighbour || flagBit w.w2 1 } }
    map := { s.map with requests := s.map.requests ++ if flagBit w.w2 0 then [.clear] else [] }
    schedule := { s.schedule with requests := s.schedule.requests ++ if flagBit w.w2 1 then [.clear] else [] }
    report := { (s.accept w).report with
      counters := if flagBit w.w2 2 then Vector.replicate 40 0 else s.report.counters } } := by
  unfold State.judgeClear State.applyIf
  cases flagBit w.w2 0 <;> cases flagBit w.w2 1 <;> cases flagBit w.w2 2 <;>
    simp [State.sendMapClear, State.voidForMap, State.sendMap, State.sendNeighbourClear, State.voidForNeighbour,
      State.sendSchedule, State.clearCounters, State.accept, State.setFlag, Function.comp_def]

/-- A CLEAR record without its counters bit only accepts. -/
theorem State.judgeClear_tallied (s : State) (w : Words8) (h : flagBit w.w2 2 = false) : Tallied s (s.judgeClear w) := by
  rw [State.judgeClear_eq, h]
  exact (s.accept_tallied w).congr rfl

/-- Only ACKNOWLEDGE, a CLEAR record with its counters bit, and RESTART do more in the Report Unit than count and set flags. -/
theorem State.judgeRecord_tallied (s : State) (w : Words8) (ack : w.kindCode ≠ 10#8)
    (clear : w.kindCode = 11#8 → flagBit w.w2 2 = false) (restart : w.kindCode ≠ 12#8) : Tallied s (s.judgeRecord w) := by
  have kind : ∀ n : Nat, w.kindCode.toNat = n → w.kindCode = BitVec.ofNat 8 n := fun n h => by rw [← h]; simp
  unfold State.judgeRecord
  split
  · exact s.judgeWindows_tallied w
  · exact s.judgeRadio_tallied w
  · exact s.judgeRates_tallied w 3 0
  · exact s.judgeRates_tallied w 4 8
  · exact s.judgeMains_tallied w
  · exact s.judgeMap_tallied w
  · exact s.judgeNeighbour_tallied w
  · exact s.judgeShaping_tallied w
  · exact s.judgeKeepalive_tallied w
  · exact absurd (kind 10 ‹_›) ack
  · exact s.judgeClear_tallied w (clear (kind 11 ‹_›))
  · exact absurd (kind 12 ‹_›) restart
  · exact s.refuse_tallied ..

end Sys2Proof.Machine
end

section
/-! The policy's invariant (O58): every judgement and every tick keeps it, and nothing else touches what it reads. -/

namespace Sys2Proof.Machine

/-! ### Fields in their ranges -/

theorem field_lt (w : Word) (lo len : Nat) : field w lo len < 2 ^ len := (w.extractLsb' lo len).isLt

theorem signedField_bounds (w : Word) (lo : Nat) : -128 ≤ signedField w lo ∧ signedField w lo ≤ 127 := by
  have low := BitVec.le_toInt (w.extractLsb' lo 8)
  have high := BitVec.toInt_lt (x := w.extractLsb' lo 8)
  unfold signedField
  omega

/-- A field held at 1 or more lies in the range of its bits. -/
theorem atLeastOne_field (w : Word) (lo len bound : Nat) (h : 2 ^ len ≤ bound + 1) (pos : 1 ≤ bound) :
    1 ≤ atLeastOne (field w lo len) ∧ atLeastOne (field w lo len) ≤ bound := by
  have := field_lt w lo len
  unfold atLeastOne
  omega

/-- The RADIO fields of a record that passes its checks are legal (R150). -/
theorem radioCarried_legal {w : Words8} {r : RadioFields} (h : radioCarried w = .ok r) : r.Legal := by
  have preamble := field_lt w.w2 8 8
  have latency := field_lt w.w2 16 8
  have access := field_lt w.w3 0 12
  have inRange : ∀ (width : Width) (position : Secondary), (width = .mhz20 ↔ position = .none) →
      1 ≤ field w.w1 16 8 → field w.w1 16 8 ≤ 14 →
      RadioFields.Legal { channel := some (field w.w1 16 8), width := width, secondary := position
                          preamble := max 16 (field w.w2 8 8), latency := field w.w2 16 8, access := field w.w3 0 12 } := by
    intro width position agree low high
    refine ⟨fun c hc => ?_, agree, ?_, ?_, ?_, ?_⟩
    · cases hc; exact ⟨low, high⟩
    all_goals dsimp only; omega
  unfold radioCarried at h
  dsimp only at h
  split at h
  · cases h
  · rename_i channel
    rw [not_or, not_lt, not_lt] at channel
    split at h <;> cases h
    rename_i width position _ _ _ _ _
    refine inRange _ _ ?_ channel.1 channel.2
    cases width <;> cases position <;> simp_all

theorem mapCarried_legal (w : Words8) : w.mapCarried.clamped.Legal := by
  have shift : ∀ (v : Word) (lo : Nat), shiftLegal (atLeastOne (field v lo 3)) := fun v lo =>
    atLeastOne_field v lo 3 7 (by decide) (by decide)
  have busy := field_lt w.w3 8 8
  have age := field_lt w.w3 24 8
  obtain ⟨low, high⟩ := signedField_bounds w.w3 0
  obtain ⟨hot, hot'⟩ := atLeastOne_field w.w3 16 8 255 (by decide) (by decide)
  exact ⟨shift .., shift .., shift .., shift .., shift .., shift .., low, high, Nat.le_of_lt_succ busy, hot, hot',
    Nat.le_of_lt_succ age, shift ..⟩

theorem neighbourCarried_legal (w : Words8) : w.neighbourCarried.clamped.Legal := by
  have tolerance := field_lt w.w2 0 12
  have before := field_lt w.w2 16 12
  have after := field_lt w.w3 0 12
  obtain ⟨protect, protect'⟩ := atLeastOne_field w.w3 16 3 7 (by decide) (by decide)
  refine ⟨?_, ?_, Nat.le_of_lt_succ before, Nat.le_of_lt_succ after, protect, protect'⟩ <;>
  · simp only [NeighbourFields.clamped, Words8.neighbourCarried]; omega

theorem shapingCarried_legal (w : Words8) :
    ShapingFields.Legal { w.shapingCarried with timeoutMs := atLeastOne w.shapingCarried.timeoutMs } := by
  obtain ⟨timeout, timeout'⟩ := atLeastOne_field w.w3 0 8 255 (by decide) (by decide)
  exact ⟨Nat.le_of_lt_succ (field_lt w.w2 0 14), Nat.le_of_lt_succ (field_lt w.w2 16 4),
    Nat.le_of_lt_succ (field_lt w.w2 24 8), timeout, timeout'⟩

/-- The rate table stays in range when a RATES record replaces a half of it (R151). -/
theorem replace_le {t : RateTable} (h : ∀ c : Fin 16, t.d20[c] ≤ 2047 ∧ t.d40[c] ≤ 2047) (base : Nat) (w : Words8)
    (c : Fin 16) : (t.replace base w).d20[c] ≤ 2047 ∧ (t.replace base w).d40[c] ≤ 2047 := by
  have value : ∀ j, w.rateValue j ≤ 2047 := fun j => Nat.le_of_lt_succ (BitVec.isLt _)
  obtain ⟨h20, h40⟩ := h c
  simp only [RateTable.replace, Fin.getElem_fin, Vector.getElem_ofFn]
  constructor <;> split
  · exact value _
  · exact h20
  · exact value _
  · exact h40

/-! ### Windows -/

/-- Two ranges that hold an address each are apart exactly when they share none. -/
theorem rangesApart_iff (a b : Nat × Nat) (ha : a.1 < a.2) (hb : b.1 < b.2) :
    rangesApart a b = true ↔ ∀ x, ¬ ((a.1 ≤ x ∧ x < a.2) ∧ b.1 ≤ x ∧ x < b.2) := by
  simp only [rangesApart, Bool.or_eq_true, decide_eq_true_eq]
  constructor
  · omega
  · intro h
    have := h (max a.1 b.1)
    omega

theorem count_true_le_one_iff : ∀ a b c d : Bool, [a, b, c, d].count true ≤ 1 ↔
    (¬ (a = true ∧ b = true) ∧ ¬ (a = true ∧ c = true) ∧ ¬ (a = true ∧ d = true)) ∧
      (¬ (b = true ∧ c = true) ∧ ¬ (b = true ∧ d = true)) ∧ ¬ (c = true ∧ d = true) := by
  decide

theorem Windows.aligned_iff (w : Windows) : w.aligned = true ↔
    w.tx.base % 32 = 0 ∧ w.rx.base % 16 = 0 ∧ w.spectral.base % 32 = 0 ∧ w.report % 512 = 0 := by
  simp only [Windows.aligned, Bool.and_eq_true, beq_iff_eq, and_assoc]
  rfl

theorem Windows.noneEmpty_iff (w : Windows) :
    w.noneEmpty = true ↔ w.tx.count ≠ 0 ∧ w.rx.count ≠ 0 ∧ w.spectral.count ≠ 0 := by
  simp [Windows.noneEmpty, and_assoc]

theorem Windows.countsOk_iff (w : Windows) :
    w.countsOk = true ↔ w.tx.count ≤ 1024 ∧ w.rx.count ≤ 1024 ∧ w.spectral.count ≤ 256 := by
  simp [Windows.countsOk, and_assoc]

theorem Windows.inRange_iff (w : Windows) : w.inRange = true ↔
    w.tx.base + 32 * w.tx.count ≤ 16777216 ∧ w.rx.base + 16 * w.rx.count ≤ 16777216 ∧
      w.spectral.base + 32 * w.spectral.count ≤ 16777216 ∧ w.report + 512 ≤ 16777216 := by
  simp only [Windows.inRange, Windows.ranges, List.all_cons, List.all_nil, Bool.and_true, Bool.and_eq_true, decide_eq_true_eq]
  simp only [Window.limit, descriptorSize, receiveSize, spectralSize, reportSize, Config.addressLimit, mul_comm]

/-- Windows that are not empty and lie below the address limit are apart exactly when no address lies in two (R149). -/
theorem Windows.apart_iff (w : Windows) (full : w.noneEmpty = true) (inRange : w.inRange = true) :
    w.apart = true ↔ ∀ a, [w.tx.holds 32 a, w.rx.holds 16 a, w.spectral.holds 32 a, w.inReport a].count true ≤ 1 := by
  simp only [Windows.noneEmpty, Bool.and_eq_true, bne_iff_ne, ne_eq] at full
  obtain ⟨⟨tx, rx⟩, spectral⟩ := full
  rw [Windows.inRange_iff] at inRange
  obtain ⟨txEnd, rxEnd, spectralEnd, reportEnd⟩ := inRange
  have holds : ∀ (v : Window) (size a : Nat), v.base + size * v.count ≤ 16777216 →
      (v.holds size a = true ↔ v.base ≤ a ∧ a < v.limit size) := by
    intro v size a h
    rw [mul_comm] at h
    simp only [Window.holds, decide_eq_true_eq]
    simp only [Window.limit, Config.addressLimit]
    omega
  have report : ∀ a, w.inReport a = true ↔ w.report ≤ a ∧ a < w.report + reportSize := by
    intro a
    simp only [Windows.inReport, decide_eq_true_eq]
    simp only [reportSize, Config.addressLimit]
    omega
  simp only [Windows.apart, Windows.ranges, decide_eq_true_eq, List.pairwise_cons, List.mem_cons, List.not_mem_nil, or_false,
    forall_eq_or_imp, forall_eq, false_imp_iff, implies_true, and_true, List.Pairwise.nil, count_true_le_one_iff,
    holds _ _ _ txEnd, holds _ _ _ rxEnd, holds _ _ _ spectralEnd, report, forall_and]
  simp only [Window.limit, descriptorSize, receiveSize, spectralSize, reportSize]
  rw [rangesApart_iff _ _ (by dsimp only; omega) (by dsimp only; omega),
    rangesApart_iff _ _ (by dsimp only; omega) (by dsimp only; omega),
    rangesApart_iff _ _ (by dsimp only; omega) (by dsimp only; omega),
    rangesApart_iff _ _ (by dsimp only; omega) (by dsimp only; omega),
    rangesApart_iff _ _ (by dsimp only; omega) (by dsimp only; omega),
    rangesApart_iff _ _ (by dsimp only; omega) (by dsimp only; omega)]

/-- Windows that pass every check are legal (R149). -/
theorem legal_of_fault_eq_none {w : Windows} (h : w.fault = none) : w.Legal := by
  simp only [Windows.fault, Bool.not_eq_true'] at h
  have step : ∀ (b : Bool) (r : RejectReason) (rest : Option RejectReason),
      (if b = false then some r else rest) = none → b = true ∧ rest = none := by
    intro b r rest h; cases b <;> simp_all
  obtain ⟨aligned, h⟩ := step _ _ _ h
  obtain ⟨full, h⟩ := step _ _ _ h
  obtain ⟨counts, h⟩ := step _ _ _ h
  obtain ⟨inRange, h⟩ := step _ _ _ h
  obtain ⟨apart, -⟩ := step _ _ _ h
  rw [w.apart_iff full inRange] at apart
  rw [Windows.aligned_iff] at aligned
  rw [Windows.noneEmpty_iff] at full
  rw [Windows.countsOk_iff] at counts
  rw [Windows.inRange_iff] at inRange
  obtain ⟨txBase, rxBase, spectralBase, reportBase⟩ := aligned
  obtain ⟨txFull, rxFull, spectralFull⟩ := full
  obtain ⟨txCount, rxCount, spectralCount⟩ := counts
  obtain ⟨txEnd, rxEnd, spectralEnd, reportEnd⟩ := inRange
  exact ⟨txBase, rxBase, spectralBase, reportBase, Nat.pos_of_ne_zero txFull, txCount, Nat.pos_of_ne_zero rxFull, rxCount,
    Nat.pos_of_ne_zero spectralFull, spectralCount, txEnd, rxEnd, spectralEnd, reportEnd, apart⟩

/-! ### The invariant -/

/-- The invariant reads the policy, the windows, and the copies of the tracker and the Report Unit. -/
theorem State.PolicyInv.congr {s t : State} (h : s.PolicyInv)
    (same : (t.policy, t.bus.windows, t.tracker.edgeMode, t.tracker.coastLimit, t.report.win) =
      (s.policy, s.bus.windows, s.tracker.edgeMode, s.tracker.coastLimit, s.report.win)) : t.PolicyInv := by
  obtain ⟨policy, windows, edgeMode, coastLimit, win⟩ : t.policy = s.policy ∧ t.bus.windows = s.bus.windows ∧
    t.tracker.edgeMode = s.tracker.edgeMode ∧ t.tracker.coastLimit = s.tracker.coastLimit ∧ t.report.win = s.report.win := by
    simpa using same
  unfold State.PolicyInv at h ⊢
  rwa [policy, windows, edgeMode, coastLimit, win]

theorem State.PolicyInv.quiet {s t : State} (h : s.PolicyInv) (q : Quiet s t) : t.PolicyInv :=
  h.congr (by rw [q.policy, q.windows, q.edgeMode, q.coastLimit, q.win])

/-- The reset values are legal. -/
theorem policyInv_of_reset {s : State} (policy : s.policy = .reset) (windows : s.bus.windows = none)
    (edgeMode : s.tracker.edgeMode = .off) (coastLimit : s.tracker.coastLimit = 1) (win : s.report.win = .reset) :
    s.PolicyInv := by
  unfold State.PolicyInv
  rw [policy, windows, edgeMode, coastLimit, win]
  refine ⟨⟨by simp [Policy.reset], by decide, by decide, by decide, by decide, by decide⟩, ?_, ?_, ?_, ?_, by simp, by decide,
    by decide, by decide, by decide, by decide, by decide, by decide, rfl, by decide, rfl, rfl⟩
  · unfold MapFields.Legal shiftLegal MapSettings.Legal; decide
  · unfold NeighbourFields.Legal; decide
  · unfold ShapingFields.Legal; decide
  · simp [Policy.reset]

theorem State.PolicyInv.refuse {s : State} (h : s.PolicyInv) (w : Words8) (r : RejectReason) : (s.refuse w r).PolicyInv := by
  obtain ⟨radio, map, neighbour, shaping, rates, windows, received, active, others, period, period', coast, coast', win, lead,
    edgeMode, limit⟩ := h
  exact ⟨radio, map, neighbour, shaping, rates, windows, received, active, others, period, period', coast, coast', win, lead,
    edgeMode, limit⟩

theorem State.PolicyInv.accept {s : State} (h : s.PolicyInv) (w : Words8) : (s.accept w).PolicyInv := by
  obtain ⟨radio, map, neighbour, shaping, rates, windows, received, active, others, period, period', coast, coast', win, lead,
    edgeMode, limit⟩ := h
  exact ⟨radio, map, neighbour, shaping, rates, windows, received, active, others, period, period', coast, coast', win, lead,
    edgeMode, limit⟩

/-- A kind received completes the set exactly when the part leaves UNCONFIGURED, and ACTIVE stays ACTIVE (R148, R156). -/
theorem State.PolicyInv.receive {s : State} (h : s.PolicyInv) (k : Nat) : (s.receive k).PolicyInv := by
  obtain ⟨radio, map, neighbour, shaping, rates, windows, received, active, others, period, period', coast, coast', win, lead,
    edgeMode, limit⟩ := h
  have full : s.policy.mode ≠ .unconfigured → (s.receive k).policy.received = 0xFF#8 := by
    intro hm
    have all : s.policy.received = BitVec.allOnes 8 := received.2 hm
    simp only [State.receive, all, BitVec.allOnes_or]
    rfl
  have mode : (s.receive k).policy.mode =
      if s.policy.mode = .unconfigured ∧ (s.receive k).policy.received = 0xFF#8 then .standby else s.policy.mode := rfl
  refine ⟨radio, map, neighbour, shaping, rates, windows, ?_, ?_, ?_, period, period', coast, coast', win, lead, edgeMode,
    limit⟩
  · rw [mode]
    by_cases hm : s.policy.mode = .unconfigured
    · by_cases hr : (s.receive k).policy.received = 0xFF#8 <;> simp [hm, hr]
    · simp [hm, full hm]
  · intro hm
    refine active ?_
    rw [mode] at hm
    split at hm
    · cases hm
    · exact hm
  · intro hm
    refine others fun ha => hm ?_
    rw [mode, ha]
    rfl

theorem State.PolicyInv.acceptConfiguration {s : State} (h : s.PolicyInv) (w : Words8) (k : Nat) (b : Bool) :
    (s.acceptConfiguration w k b).PolicyInv :=
  ((h.quiet (s.countClamp_quiet b)).accept w).receive k

/-! ### The judgements -/

theorem State.PolicyInv.judgeWindows {s : State} (h : s.PolicyInv) (w : Words8) : (s.judgeWindows w).PolicyInv := by
  unfold State.judgeWindows
  split
  · exact h.refuse ..
  · rename_i passed
    obtain ⟨radio, map, neighbour, shaping, rates, -, received, active, others, period, period', coast, coast', win, lead,
      edgeMode, limit⟩ := h.acceptConfiguration w 1 false
    exact ⟨radio, map, neighbour, shaping, rates, fun v hv => by cases hv; exact legal_of_fault_eq_none passed, received, active,
      others, period, period', coast, coast', win, lead, edgeMode, limit⟩

theorem State.PolicyInv.judgeRadio {s : State} (h : s.PolicyInv) (w : Words8) : (s.judgeRadio w).PolicyInv := by
  unfold State.judgeRadio
  split
  · exact h.refuse ..
  · rename_i new carried
    refine State.PolicyInv.quiet ?_ (State.radioChange_quiet _ _ _)
    obtain ⟨-, map, neighbour, shaping, rates, windows, received, active, others, period, period', coast, coast', win, lead,
      edgeMode, limit⟩ := h.acceptConfiguration w 2 (decide (field w.w2 8 8 < 16))
    exact ⟨radioCarried_legal carried, map, neighbour, shaping, rates, windows, received, active, others, period, period',
      coast, coast', win, lead, edgeMode, limit⟩

theorem State.PolicyInv.judgeRates {s : State} (h : s.PolicyInv) (w : Words8) (k b : Nat) :
    (s.judgeRates w k b).PolicyInv := by
  have rates : ∀ c : Fin 16, s.policy.rates.d20[c] ≤ 2047 ∧ s.policy.rates.d40[c] ≤ 2047 := h.2.2.2.2.1
  obtain ⟨radio, map, neighbour, shaping, -, windows, received, active, others, period, period', coast, coast', win, lead,
    edgeMode, limit⟩ := h.acceptConfiguration w k false
  unfold State.judgeRates
  exact ⟨radio, map, neighbour, shaping, replace_le rates b w, windows, received, active, others, period, period',
    coast, coast', win, lead, edgeMode, limit⟩

theorem State.trackerSettings_edgeMode (s : State) (m : EdgeMode) (n : Nat) :
    (s.trackerSettings m n).tracker.edgeMode = m ∧ (s.trackerSettings m n).tracker.coastLimit = n := by
  unfold State.trackerSettings
  split
  · exact ⟨Eq.symm ‹_›, rfl⟩
  · exact ⟨rfl, rfl⟩

theorem State.PolicyInv.judgeMains {s : State} (h : s.PolicyInv) (w : Words8) : (s.judgeMains w).PolicyInv := by
  obtain ⟨coast, coast'⟩ := atLeastOne_field w.w2 8 4 15 (by decide) (by decide)
  obtain ⟨radio, map, neighbour, shaping, rates, windows, received, active, others, period, period', -, -, win, lead, -, -⟩ :=
    h.acceptConfiguration w 5 (field w.w2 8 4 == 0)
  simp only [State.judgeMains]
  obtain ⟨edgeMode, limit⟩ := State.trackerSettings_edgeMode
    { s.acceptConfiguration w 5 (field w.w2 8 4 == 0) with
      policy := { (s.acceptConfiguration w 5 (field w.w2 8 4 == 0)).policy with
        edgeMode := edgeModeOfCode (field w.w2 0 2), coastLimit := atLeastOne (field w.w2 8 4) } }
    (edgeModeOfCode (field w.w2 0 2)) (atLeastOne (field w.w2 8 4))
  obtain ⟨_, _, _, touches⟩ := State.trackerSettings_touches
    { s.acceptConfiguration w 5 (field w.w2 8 4 == 0) with
      policy := { (s.acceptConfiguration w 5 (field w.w2 8 4 == 0)).policy with
        edgeMode := edgeModeOfCode (field w.w2 0 2), coastLimit := atLeastOne (field w.w2 8 4) } }
    (edgeModeOfCode (field w.w2 0 2)) (atLeastOne (field w.w2 8 4))
  rw [touches] at edgeMode limit ⊢
  exact ⟨radio, map, neighbour, shaping, rates, windows, received, active, others, period, period', coast, coast', win, lead,
    edgeMode, limit⟩

theorem State.PolicyInv.judgeMap {s : State} (h : s.PolicyInv) (w : Words8) : (s.judgeMap w).PolicyInv := by
  obtain ⟨radio, -, neighbour, shaping, rates, windows, received, active, others, period, period', coast, coast', win, lead,
    edgeMode, limit⟩ := h.acceptConfiguration w 6 (w.mapCarried.clamped != w.mapCarried)
  unfold State.judgeMap
  exact ⟨radio, mapCarried_legal w, neighbour, shaping, rates, windows, received, active, others, period, period', coast, coast',
    win, lead, edgeMode, limit⟩

theorem State.PolicyInv.judgeNeighbour {s : State} (h : s.PolicyInv) (w : Words8) : (s.judgeNeighbour w).PolicyInv := by
  obtain ⟨radio, map, -, shaping, rates, windows, received, active, others, period, period', coast, coast', win, lead,
    edgeMode, limit⟩ := h.acceptConfiguration w 7 (w.neighbourCarried.clamped != w.neighbourCarried)
  unfold State.judgeNeighbour
  exact ⟨radio, map, neighbourCarried_legal w, shaping, rates, windows, received, active, others, period, period', coast,
    coast', win, lead, edgeMode, limit⟩

theorem State.PolicyInv.judgeShaping {s : State} (h : s.PolicyInv) (w : Words8) : (s.judgeShaping w).PolicyInv := by
  obtain ⟨radio, map, neighbour, -, rates, windows, received, active, others, period, period', coast, coast', -, -, edgeMode,
    limit⟩ := h.acceptConfiguration w 8 (w.shapingCarried.timeoutMs == 0)
  unfold State.judgeShaping
  exact ⟨radio, map, neighbour, shapingCarried_legal w, rates, windows, received, active, others, period, period', coast, coast',
    rfl, Nat.le_of_lt_succ (field_lt w.w3 16 12), edgeMode, limit⟩

theorem State.PolicyInv.refreshKeepalive {s : State} (h : s.PolicyInv) {p : Nat} (low : 1 ≤ p) (high : p ≤ 255) :
    (s.refreshKeepalive p).PolicyInv := by
  obtain ⟨radio, map, neighbour, shaping, rates, windows, received, active, others, period, period', coast, coast', win, lead,
    edgeMode, limit⟩ := h
  simp only [State.refreshKeepalive]
  split
  · rename_i standby
    exact ⟨radio, map, neighbour, shaping, rates, windows, by simpa [standby] using received, fun _ => ⟨low, high⟩,
      fun hm => absurd rfl hm, period, period', coast, coast', win, lead, edgeMode, limit⟩
  · rename_i mode
    exact ⟨radio, map, neighbour, shaping, rates, windows, received, fun _ => ⟨low, high⟩, fun hm => absurd mode hm, period,
      period', coast, coast', win, lead, edgeMode, limit⟩
  · exact ⟨radio, map, neighbour, shaping, rates, windows, received, active, others, period, period', coast, coast', win, lead,
      edgeMode, limit⟩

/-- ACTIVE left for STANDBY with the keep-alive counter at 0. -/
theorem State.PolicyInv.toStandby {s : State} (h : s.PolicyInv) (active : s.policy.mode = .active) :
    State.PolicyInv { s with policy := { s.policy with mode := .standby, keepaliveCounter := 0 } } := by
  obtain ⟨radio, map, neighbour, shaping, rates, windows, received, -, -, period, period', coast, coast', win, lead,
    edgeMode, limit⟩ := h
  exact ⟨radio, map, neighbour, shaping, rates, windows, by simpa [active] using received, fun hm => by simp at hm, fun _ => rfl,
    period, period', coast, coast', win, lead, edgeMode, limit⟩

theorem State.PolicyInv.releaseKeepalive {s : State} (h : s.PolicyInv) : s.releaseKeepalive.PolicyInv := by
  unfold State.releaseKeepalive
  split
  · exact h.toStandby ‹_›
  · exact h
  · exact h

theorem State.PolicyInv.judgeKeepalive {s : State} (h : s.PolicyInv) (w : Words8) : (s.judgeKeepalive w).PolicyInv := by
  obtain ⟨low, high⟩ := atLeastOne_field w.w2 16 8 255 (by decide) (by decide)
  have accepted : State.PolicyInv { (s.countClamp (field w.w2 16 8 == 0)).accept w with
      policy := { ((s.countClamp (field w.w2 16 8 == 0)).accept w).policy with
        keepalivePeriod := atLeastOne (field w.w2 16 8) } } := by
    obtain ⟨radio, map, neighbour, shaping, rates, windows, received, active, others, -, -, coast, coast', win, lead,
      edgeMode, limit⟩ := (h.quiet (s.countClamp_quiet (field w.w2 16 8 == 0))).accept w
    exact ⟨radio, map, neighbour, shaping, rates, windows, received, active, others, low, high, coast, coast', win, lead,
      edgeMode, limit⟩
  simp only [State.judgeKeepalive]
  split
  · split
    · exact h.refuse ..
    · exact accepted.refreshKeepalive low high
  · split
    · exact accepted.releaseKeepalive
    · exact h.refuse ..

theorem State.judgeAcknowledge_policyInv {s : State} (h : s.PolicyInv) (w : Words8) : (s.judgeAcknowledge w).PolicyInv :=
  (h.accept w).congr rfl

theorem State.PolicyInv.judgeClear {s : State} (h : s.PolicyInv) (w : Words8) : (s.judgeClear w).PolicyInv := by
  rw [State.judgeClear_eq]
  exact (h.accept w).congr rfl

theorem State.judgeRestart_policyInv (s : State) (w : Words8) : (s.judgeRestart w).PolicyInv :=
  (policyInv_of_reset rfl rfl rfl rfl rfl : s.restarted.PolicyInv).accept w

theorem State.PolicyInv.judgeRecord {s : State} (h : s.PolicyInv) (w : Words8) : (s.judgeRecord w).PolicyInv := by
  unfold State.judgeRecord
  split
  · exact h.judgeWindows w
  · exact h.judgeRadio w
  · exact h.judgeRates w 3 0
  · exact h.judgeRates w 4 8
  · exact h.judgeMains w
  · exact h.judgeMap w
  · exact h.judgeNeighbour w
  · exact h.judgeShaping w
  · exact h.judgeKeepalive w
  · exact State.judgeAcknowledge_policyInv h w
  · exact h.judgeClear w
  · exact s.judgeRestart_policyInv w
  · exact h.refuse ..

/-! ### The tick -/

theorem State.PolicyInv.decreaseKeepalive {s : State} (h : s.PolicyInv) : s.decreaseKeepalive.PolicyInv := by
  unfold State.decreaseKeepalive
  split
  · rename_i mode
    split
    · exact (h.toStandby mode).quiet (((Quiet.refl _).setFlag .keepaliveExpired).count .keepaliveExpired)
    · obtain ⟨radio, map, neighbour, shaping, rates, windows, received, active, -, period, period', coast, coast', win, lead,
        edgeMode, limit⟩ := h
      have := active mode
      exact ⟨radio, map, neighbour, shaping, rates, windows, received, fun _ => ⟨by dsimp only; omega, by dsimp only; omega⟩,
        fun hm => absurd mode hm, period, period', coast, coast', win, lead, edgeMode, limit⟩
  · exact h
  · exact h

theorem State.PolicyInv.takeTick {s : State} (h : s.PolicyInv) : s.takeTick.PolicyInv := by
  unfold State.takeTick
  split
  · exact (h.congr rfl : State.PolicyInv { s with air.tickDue := false }).decreaseKeepalive
  · exact h

/-- After the tick the present microsecond owes nothing that changes the policy. -/
theorem State.settle_quiet (s : State) : Quiet s.takeTick s.settle :=
  ((s.takeTick.takeTrackerExpiry_quiet.trans (Quiet.foldl State.takeStale_quiet _ _)).trans
    (Quiet.foldl State.takeMiss_quiet _ _))

theorem State.advance_quiet (s : State) : Quiet s s.advance := (Quiet.refl s).congr rfl

theorem State.PolicyInv.tickMicrosecond {s : State} (h : s.PolicyInv) : s.tickMicrosecond.PolicyInv := by
  unfold State.tickMicrosecond
  split
  · exact h
  · exact (h.takeTick.quiet s.settle_quiet).quiet (State.advance_quiet _)

/-! ### Every command -/

/-- Every effect keeps the policy's invariant. -/
theorem Effect.keeps_policyInv {c : Instr} {s u : State} (h : s.PolicyInv) (e : Effect c s u) : u.PolicyInv := by
  obtain q | rfl | rfl | ⟨-, rfl⟩ | ⟨addr, w, -, -, -, rfl⟩ := e.quiet_or
  · exact h.quiet q
  · exact h.takeTick
  · exact h.tickMicrosecond
  · exact policyInv_of_reset rfl rfl rfl rfl rfl
  · exact (h.congr rfl : (s.carried addr w).PolicyInv).judgeRecord w

/-- Settles O58: each judgement writes fields in range, the tick and the records keep mode, received set and keep-alive counter
in step, and every other effect is quiet. -/
theorem policyStaysLegal : Obligations.PolicyStaysLegal :=
  exec_keeps (fun _ h => h.congr rfl) fun _ _ _ => Effect.keeps_policyInv

end Sys2Proof.Machine
end

section
/-! The Report Unit's invariant (O59): counters fall and flags clear only by a pin reset and by the three records that say so. -/

namespace Sys2Proof.Machine

/-! ### The three records -/

theorem judgeRecord_of_acknowledge {w : Words8} (h : w.kindCode = 10#8) (s : State) :
    s.judgeRecord w = s.judgeAcknowledge w := by simp [State.judgeRecord, h]

theorem judgeRecord_of_clear {w : Words8} (h : w.kindCode = 11#8) (s : State) : s.judgeRecord w = s.judgeClear w := by
  simp [State.judgeRecord, h]

theorem judgeRecord_of_restart {w : Words8} (h : w.kindCode = 12#8) (s : State) : s.judgeRecord w = s.judgeRestart w := by
  simp [State.judgeRecord, h]

@[simp] theorem State.accept_counter (s : State) (w : Words8) (k : Counter) : (s.accept w).counter k = s.counter k := rfl

@[simp] theorem State.accept_flags (s : State) (w : Words8) :
    (s.accept w).report.flags = withFlag s.report.flags .policyAccepted := rfl

/-- The Report Unit after reset: every counter 0. -/
theorem counter_of_reset {s : State} (h : s.report.counters = Vector.replicate 40 0) (k : Counter) : s.counter k = 0 := by
  simp [State.counter, h]

/-! ### What can lower a counter or clear a flag -/

theorem State.decreaseKeepalive_tallied (s : State) : Tallied s s.decreaseKeepalive := by
  unfold State.decreaseKeepalive
  split
  · split
    · exact (((Tallied.refl s).congr (by rfl)).setFlag .keepaliveExpired).count .keepaliveExpired
    · exact (Tallied.refl s).congr rfl
  · exact .refl s
  · exact .refl s

theorem State.takeTick_tallied (s : State) : Tallied s s.takeTick := by
  unfold State.takeTick
  split
  · have taken : Tallied s { s with air.tickDue := false } := (Tallied.refl s).congr rfl
    exact taken.trans (State.decreaseKeepalive_tallied _)
  · exact .refl s

theorem State.tickMicrosecond_tallied (s : State) : Tallied s s.tickMicrosecond := by
  unfold State.tickMicrosecond
  split
  · exact .refl s
  · exact s.takeTick_tallied.trans (s.settle_quiet.trans (State.advance_quiet _)).toTallied

/-- A record that lowers a counter or clears a flag: ACKNOWLEDGE, CLEAR with its counters bit, and RESTART. -/
def Lowers (w : Words8) : Prop := w.kindCode = 10#8 ∨ w.kindCode = 11#8 ∧ flagBit w.w2 2 = true ∨ w.kindCode = 12#8

/-- Every effect counts and sets flags only, unless it is a pin reset or the judgement of a record that lowers. -/
theorem Effect.tallied_or {c : Instr} {s u : State} (e : Effect c s u) : Tallied s u ∨
    (c = .pinReset ∧ u = s.assertReset) ∨
    ∃ addr w, WritesRecord c addr w ∧ TakesRecord s addr ∧ w.sum = 0#32 ∧ Lowers w ∧
      u = (s.carried addr w).judgeRecord w := by
  obtain q | rfl | rfl | reset | ⟨addr, w, writes, takes, sum, rfl⟩ := e.quiet_or
  · exact .inl q.toTallied
  · exact .inl s.takeTick_tallied
  · exact .inl s.tickMicrosecond_tallied
  · exact .inr (.inl reset)
  · by_cases lowers : Lowers w
    · exact .inr (.inr ⟨addr, w, writes, takes, sum, lowers, rfl⟩)
    · simp only [Lowers, not_or, not_and, Bool.not_eq_true] at lowers
      obtain ⟨ack, clear, restart⟩ := lowers
      have carried : Tallied s (s.carried addr w) := (Tallied.refl s).congr rfl
      exact .inl (carried.trans ((s.carried addr w).judgeRecord_tallied w ack clear restart))

/-! ### The invariant -/

/-- ATTN is driven to say that some flag is set whose enable is set (R168). -/
theorem driveLines_attn_iff (s : State) : s.driveLines.report.attn = true ↔
    ∃ n, s.report.flags.getLsbD n = true ∧ s.report.enables.getLsbD n = true := by
  have zero : s.report.flags &&& s.report.enables = 0#16 ↔
      ∀ n, ¬ (s.report.flags.getLsbD n = true ∧ s.report.enables.getLsbD n = true) := by
    constructor
    · intro h n hn
      have := congrArg (fun v => v.getLsbD n) h
      simp [hn] at this
    · intro h
      refine BitVec.eq_of_getLsbD_eq fun n _ => ?_
      simpa using h n
  show attnCondition s.report = true ↔ _
  simp only [attnCondition, bne_iff_ne, ne_eq, zero, not_forall, not_not]

/-- The Report Unit's invariant apart from ATTN, which the end of every command drives. -/
def State.ReportBounds (s : State) : Prop :=
  (∀ c : Counter, s.counter c ≤ 65535) ∧ (∀ n, 10 ≤ n → s.report.flags.getLsbD n = false) ∧ s.air.outlierRun ≤ 3

theorem reportInv_driveLines {u : State} (h : u.ReportBounds) : u.driveLines.ReportInv :=
  ⟨h.1, h.2.1, driveLines_attn_iff u, h.2.2⟩

theorem Tallied.reportBounds {s u : State} (t : Tallied s u) (h : s.ReportBounds) : u.ReportBounds :=
  ⟨fun c => (t.counters c (h.1 c)).2, fun n hn => t.unused n hn (h.2.1 n hn), t.outlierRun h.2.2⟩

/-- The bit of a masked flag. -/
theorem mask_of_cleared (flags mask : BitVec 16) (n : Nat) (before : flags.getLsbD n = true)
    (after : (flags &&& ~~~mask).getLsbD n = false) : mask.getLsbD n = true := by
  have : n < 16 := by
    by_contra h
    rw [BitVec.getLsbD_of_ge _ _ (by omega)] at before
    cases before
  simpa [before, this] using after

/-- A pin reset brings every counter to 0 and keeps the bounds. -/
theorem assertReset_reportBounds (s : State) : s.assertReset.ReportBounds ∧ ∀ k, s.assertReset.counter k = 0 := by
  have zero : ∀ k, s.assertReset.counter k = 0 := counter_of_reset rfl
  exact ⟨⟨fun k => by simp [zero k], fun n _ => by simp [State.assertReset, State.reset, Report.reset],
    Nat.zero_le 3⟩, zero⟩

/-- A record that the Policy Unit has just accepted is the last accepted one, written by its command. -/
theorem leavesRecord {c : Instr} {s t : State} {addr : Addr} {w : Words8} {kind : BitVec 8} (writes : WritesRecord c addr w)
    (takes : TakesRecord s addr) (sum : w.sum = 0#32) (hk : w.kindCode = kind) (k : t.policy.lastAcceptedKind = w.kindCode)
    (q : t.policy.lastAcceptedSequence = w.sequence) : LeavesRecord c s t kind w.w2 :=
  ⟨addr, w, writes, takes, sum, hk, rfl, k.trans hk, q⟩

/-- Settles O59: every effect only counts and sets flags, but for a pin reset and the three records that lower. -/
theorem countersSaturateAndFlagsStay : Obligations.CountersSaturateAndFlagsStay := by
  intro c s t inv h
  obtain ⟨u, e, rfl⟩ := effect_of_exec h
  have bounds : s.ReportBounds := ⟨inv.1, inv.2.1, inv.2.2.2⟩
  obtain tallied | ⟨reset, rfl⟩ | ⟨addr, w, writes, takes, sum, lowers, rfl⟩ := e.tallied_or
  · refine ⟨reportInv_driveLines (tallied.reportBounds bounds), fun k lower => ?_, fun n set clear => ?_⟩
    · exact absurd lower (not_lt.2 (tallied.counters k (bounds.1 k)).1)
    · exact absurd (tallied.flags n set) (by simpa using clear)
  · obtain ⟨reset', zero⟩ := assertReset_reportBounds s
    exact ⟨reportInv_driveLines reset', fun _ _ => ⟨zero, .inl reset⟩, fun _ _ _ => .inl reset⟩
  · have carried : (s.carried addr w).ReportBounds := bounds
    have accepted := ((s.carried addr w).accept_tallied w).reportBounds carried
    obtain kind | ⟨kind, bit⟩ | kind := lowers
    · rw [judgeRecord_of_acknowledge kind]
      refine ⟨reportInv_driveLines ⟨accepted.1, fun n hn => ?_, accepted.2.2⟩, fun k lower => ?_, fun n set clear => ?_⟩
      · have : ((s.carried addr w).accept w).report.flags.getLsbD n = false := accepted.2.1 n hn
        simp only [State.judgeAcknowledge, BitVec.getLsbD_and, this, Bool.false_and]
      · exact absurd lower (lt_irrefl _)
      · have mask := mask_of_cleared _ _ n (((s.carried addr w).accept_tallied w).flags n set) clear
        refine .inr ⟨w.w2, .inr ⟨leavesRecord writes takes sum kind rfl rfl, ?_⟩⟩
        have : n < 16 := by
          by_contra hn
          rw [BitVec.getLsbD_of_ge _ _ (by omega)] at mask
          cases mask
        simpa [this] using mask
    · rw [judgeRecord_of_clear kind, State.judgeClear_eq]
      have zero : ∀ k, ((s.carried addr w).judgeClear w).counter k = 0 := fun k =>
        counter_of_reset (by rw [State.judgeClear_eq]; simp [bit]) k
      rw [State.judgeClear_eq] at zero
      refine ⟨reportInv_driveLines ⟨fun k => by rw [zero k]; omega, accepted.2.1, accepted.2.2⟩, fun k _ => ⟨zero, .inr ?_⟩,
        fun n set clear => ?_⟩
      · exact ⟨w.w2, .inr ⟨leavesRecord writes takes sum kind rfl rfl, bit⟩⟩
      · exact absurd (((s.carried addr w).accept_tallied w).flags n set) (by simpa using clear)
    · rw [judgeRecord_of_restart kind]
      have zero : ∀ k, ((s.carried addr w).judgeRestart w).counter k = 0 := counter_of_reset rfl
      have left : LeavesRecord c s ((s.carried addr w).judgeRestart w).driveLines 12#8 w.w2 :=
        leavesRecord writes takes sum kind rfl rfl
      refine ⟨reportInv_driveLines ⟨fun k => by rw [zero k]; omega, fun n hn => ?_, bounds.2.2⟩,
        fun k _ => ⟨zero, .inr ⟨w.w2, .inl left⟩⟩, fun n _ _ => .inr ⟨w.w2, .inl left⟩⟩
      have flags : ((s.carried addr w).judgeRestart w).report.flags = withFlag 0#16 .policyAccepted := rfl
      rw [flags]
      simp [withFlag, Flag.number]
      omega

end Sys2Proof.Machine
end

section
/-! The Schedule's invariant (O56): the table entry by entry, and the requests on their way. -/

namespace Sys2Proof.Machine

/-- The fields of an entry in their ranges, its miss expiry apart (R87). -/
def Neighbour.Sound (e : Neighbour) : Prop :=
  16 ≤ e.interval ∧ e.interval ≤ 1023 ∧ e.airtime ≤ 65535 ∧ 2 * e.missCount + e.confidence ≤ 7 ∧ e.misaligned ≤ 2

/-- An entry's miss expiry as armed with a tolerance (R95). -/
def Neighbour.ExpiryArmed (e : Neighbour) (tolerance : Nat) : Prop :=
  e.expiry = e.anchor + BitVec.ofNat 32 (e.interval * 1024 + tolerance)

/-- What a request on its way carries lies in its ranges. -/
def ScheduleRequest.Legal : ScheduleRequest → Prop
  | .update u _ => ∀ n, u.airtime = some n → n ≤ 65535
  | .expiry _ _ => True
  | .clear => True
  | .settings n => n.Legal

/-- The Schedule's invariant with the expiries armed in some slots only, as it stands while the entries are re-armed with a new
tolerance one by one (R100). -/
def Schedule.ArmedOver (armed : Fin 8 → Prop) (h : Schedule) : Prop :=
  (∀ i : Fin 8, ∀ e, h.slots[i] = some e → e.Sound ∧ (armed i → e.ExpiryArmed h.settings.tolerance)) ∧
    (∀ i j : Fin 8, ∀ e f, h.slots[i] = some e → h.slots[j] = some f → e.address = f.address → i = j) ∧
    h.settings.Legal ∧ ∀ q ∈ h.requests, q.Legal

theorem Schedule.inv_iff (h : Schedule) : h.Inv ↔ h.ArmedOver fun _ => True := by
  have requests : (∀ q ∈ h.requests, q.Legal) ↔ (∀ n, ScheduleRequest.settings n ∈ h.requests → n.Legal) ∧
      ∀ u b n, ScheduleRequest.update u b ∈ h.requests → u.airtime = some n → n ≤ 65535 := by
    constructor
    · exact fun all => ⟨fun n hn => all _ hn, fun u b n hu => all _ hu n⟩
    · rintro ⟨settings, updates⟩ q hq
      cases q with
      | update u b => exact fun n => updates u b n hq
      | expiry i a => trivial
      | clear => trivial
      | settings n => exact settings n hq
  have entry : ∀ (e : Neighbour) (t : Nat), e.Legal t ↔ e.Sound ∧ (True → e.ExpiryArmed t) := fun e t => by
    simp only [Neighbour.Legal, Neighbour.Sound, Neighbour.ExpiryArmed, true_imp_iff, and_assoc]
  simp only [Schedule.Inv, Schedule.ArmedOver, entry, requests]

/-! ### The table -/

/-- What a slot holds after a slot is changed. -/
theorem slot_set (slots : Vector (Option Neighbour) 8) (i j : Fin 8) (x : Option Neighbour) :
    (slots.set i x)[j] = if j = i then x else slots[j] := by
  simp only [Fin.getElem_fin, Vector.getElem_set, Fin.ext_iff, eq_comm]

/-- A sound entry with its expiry armed, put into a slot that alone may hold its address. -/
theorem Schedule.ArmedOver.put {armed : Fin 8 → Prop} {h : Schedule} (inv : h.ArmedOver armed) {i : Fin 8} {e : Neighbour}
    (sound : e.Sound) (expiry : e.ExpiryArmed h.settings.tolerance)
    (fresh : ∀ j f, h.slots[j] = some f → f.address = e.address → j = i) :
    Schedule.ArmedOver (fun j => armed j ∨ j = i) { h with slots := h.slots.set i (some e) } := by
  obtain ⟨entries, distinct, settings, requests⟩ := inv
  refine ⟨fun j f hj => ?_, fun j k f g hj hk same => ?_, settings, requests⟩
  · rw [slot_set] at hj
    split at hj
    · cases hj; exact ⟨sound, fun _ => expiry⟩
    · obtain ⟨fs, fa⟩ := entries j f hj
      exact ⟨fs, fun h => fa (h.resolve_right ‹_›)⟩
  · rw [slot_set] at hj hk
    split at hj <;> split at hk
    · simp [*]
    · cases hj; rw [fresh k g hk same.symm]; assumption
    · cases hk; rw [fresh j f hj same]; simp [*]
    · exact distinct j k f g hj hk same

theorem Schedule.Inv.put {h : Schedule} (inv : h.Inv) {i : Fin 8} {e : Neighbour} (sound : e.Sound)
    (expiry : e.ExpiryArmed h.settings.tolerance) (fresh : ∀ j f, h.slots[j] = some f → f.address = e.address → j = i) :
    Schedule.Inv { h with slots := h.slots.set i (some e) } := by
  rw [Schedule.inv_iff] at inv ⊢
  simpa only [true_or] using inv.put sound expiry fresh

/-- A slot emptied. -/
theorem Schedule.Inv.free {h : Schedule} (inv : h.Inv) (i : Fin 8) : Schedule.Inv { h with slots := h.slots.set i none } := by
  obtain ⟨entries, distinct, settings, requests⟩ := inv
  have kept : ∀ (j : Fin 8) (f : Neighbour), (h.slots.set i none)[j] = some f → h.slots[j] = some f := by
    intro j f hj
    rw [slot_set] at hj
    split at hj
    · cases hj
    · exact hj
  exact ⟨fun j f hj => entries j f (kept j f hj), fun j k f g hj hk => distinct j k f g (kept j f hj) (kept k g hk), settings,
    requests⟩

/-- Requests join whose contents are legal, and others leave. -/
theorem Schedule.ArmedOver.requests {armed : Fin 8 → Prop} {h : Schedule} (inv : h.ArmedOver armed)
    {l : List ScheduleRequest} (legal : ∀ q ∈ l, q ∈ h.requests ∨ q.Legal) :
    Schedule.ArmedOver armed { h with requests := l } := by
  obtain ⟨entries, distinct, settings, requests⟩ := inv
  exact ⟨entries, distinct, settings, fun q hq => (legal q hq).elim (requests q) id⟩

theorem Schedule.Inv.requests {h : Schedule} (inv : h.Inv) {l : List ScheduleRequest}
    (legal : ∀ q ∈ l, q ∈ h.requests ∨ q.Legal) : Schedule.Inv { h with requests := l } :=
  (Schedule.inv_iff _).2 (((Schedule.inv_iff h).1 inv).requests legal)

theorem State.sendSchedule_inv {s : State} (inv : s.schedule.Inv) {q : ScheduleRequest} (legal : q.Legal) :
    (s.sendSchedule q).schedule.Inv := by
  refine inv.requests fun p hp => ?_
  rcases List.mem_append.1 hp with hp | hp
  · exact .inl hp
  · rw [List.mem_singleton.1 hp]; exact .inr legal

theorem State.popSchedule_inv {s : State} (inv : s.schedule.Inv) : s.popSchedule.schedule.Inv :=
  inv.requests fun _ hq => .inl (List.mem_of_mem_tail hq)

/-! ### Arming a slot -/

theorem State.armSlot_armedOver {armed : Fin 8 → Prop} {s : State} (inv : s.schedule.ArmedOver armed) {i : Fin 8}
    {e : Neighbour} (sound : e.Sound) (fresh : ∀ j f, s.schedule.slots[j] = some f → f.address = e.address → j = i) :
    (s.armSlot i e).schedule.ArmedOver fun j => armed j ∨ j = i := by
  have put := inv.put (e := e.armed s.schedule.settings.tolerance) sound rfl fresh
  dsimp only [State.armSlot]
  split
  · exact put
  · have put := inv.put (e := { e.armed s.schedule.settings.tolerance with taken := true }) sound rfl fresh
    refine put.requests fun q hq => ?_
    rcases List.mem_append.1 hq with hq | hq
    · exact .inl hq
    · rw [List.mem_singleton.1 hq]; exact .inr trivial

theorem State.armSlot_inv {s : State} (inv : s.schedule.Inv) {i : Fin 8} {e : Neighbour} (sound : e.Sound)
    (fresh : ∀ j f, s.schedule.slots[j] = some f → f.address = e.address → j = i) : (s.armSlot i e).schedule.Inv := by
  rw [Schedule.inv_iff] at inv ⊢
  simpa using s.armSlot_armedOver inv sound fresh

/-- An entry of the table is sound, and its address stands in its slot alone. -/
theorem Schedule.Inv.entry {h : Schedule} (inv : h.Inv) {i : Fin 8} {e : Neighbour} (at' : h.slots[i] = some e) :
    e.Sound ∧ e.ExpiryArmed h.settings.tolerance ∧ ∀ j f, h.slots[j] = some f → f.address = e.address → j = i := by
  have := (Schedule.inv_iff h).1 inv
  obtain ⟨sound, armed⟩ := this.1 i e at'
  exact ⟨sound, armed trivial, fun j f hj same => this.2.1 j i f e hj at' same⟩

theorem State.takeMiss_inv {s : State} (inv : s.schedule.Inv) (i : Fin 8) : (s.takeMiss i).schedule.Inv := by
  unfold State.takeMiss
  split
  · rename_i e he
    split
    · obtain ⟨sound, expiry, fresh⟩ := inv.entry he
      exact State.sendSchedule_inv (s := s.setSlot i (some { e with taken := true })) (inv.put sound expiry fresh) trivial
    · exact inv
  · exact inv

/-! ### Beacon updates -/

/-- A misaligned beacon leaves the anchor and so the expiry (R92). -/
theorem Neighbour.Sound.afterMisaligned {e : Neighbour} (sound : e.Sound) (u : BeaconUpdate) (h : e.misaligned + 1 < 3) :
    (e.afterMisaligned u).Sound := by
  obtain ⟨low, high, airtime, run, -⟩ := sound
  exact ⟨low, high, airtime, by simp only [Neighbour.afterMisaligned]; omega, by simp only [Neighbour.afterMisaligned]; omega⟩

theorem airtimeOver_le {u : BeaconUpdate} (hu : ∀ n, u.airtime = some n → n ≤ 65535) {old : Nat} (ho : old ≤ 65535) :
    u.airtimeOver old ≤ 65535 := by
  unfold BeaconUpdate.airtimeOver
  cases h : u.airtime with
  | none => exact ho
  | some n => exact hu n h

theorem State.updateEntry_inv {s : State} (inv : s.schedule.Inv) {i : Fin 8} {e : Neighbour}
    (he : s.schedule.slots[i] = some e) {u : BeaconUpdate} (hu : ∀ n, u.airtime = some n → n ≤ 65535) (low : 16 ≤ u.interval)
    (high : u.interval ≤ 1023) : (s.updateEntry i e u).schedule.Inv := by
  obtain ⟨sound, expiry, fresh⟩ := inv.entry he
  have airtime := airtimeOver_le hu sound.2.2.1
  have reanchored : ((s.count .reAnchor).armSlot i (e.reanchored u)).schedule.Inv :=
    State.armSlot_inv (s := s.count .reAnchor) inv
      ⟨low, high, airtime, by simp [Neighbour.reanchored], by simp [Neighbour.reanchored]⟩ fresh
  unfold State.updateEntry
  split
  · exact reanchored
  · split
    · obtain ⟨low, high, -, -, -⟩ := sound
      exact State.armSlot_inv inv
        ⟨low, high, airtime, by simp only [Neighbour.afterMatch]; omega, by simp [Neighbour.afterMatch]⟩ fresh
    · split
      · exact inv.put (sound.afterMisaligned u ‹_›) expiry fresh
      · exact reanchored

/-- A newcomer is sound when its interval is announced in range (R93). -/
theorem newcomer_sound {u : BeaconUpdate} (hu : ∀ n, u.airtime = some n → n ≤ 65535) (low : 16 ≤ u.interval)
    (high : u.interval ≤ 1023) : u.newcomer.Sound :=
  ⟨low, high, airtimeOver_le hu (Nat.zero_le _), by simp [BeaconUpdate.newcomer], by simp [BeaconUpdate.newcomer]⟩

theorem findAddress_eq_none {slots : Vector (Option Neighbour) 8} {address : BitVec 48}
    (h : findAddress slots address = none) {j : Fin 8} {f : Neighbour} (hj : slots[j] = some f) : f.address ≠ address := by
  have := List.find?_eq_none.1 h j (List.mem_finRange j)
  simpa [hj] using this

theorem State.takeNewcomer_inv {s : State} (inv : s.schedule.Inv) {u : BeaconUpdate}
    (new : findAddress s.schedule.slots u.address = none) (hu : ∀ n, u.airtime = some n → n ≤ 65535) (low : 16 ≤ u.interval)
    (high : u.interval ≤ 1023) : (s.takeNewcomer u).schedule.Inv := by
  have fresh : ∀ (i j : Fin 8) (f : Neighbour), s.schedule.slots[j] = some f → f.address = u.newcomer.address → j = i := fun _ j f hj same =>
    absurd same (findAddress_eq_none new hj)
  unfold State.takeNewcomer
  split
  · exact State.armSlot_inv inv (newcomer_sound hu low high) (fresh _)
  · split
    · exact inv
    · split
      · exact inv
      · exact State.armSlot_inv (s := s.count .neighbourReplaced) inv (newcomer_sound hu low high) (fresh _)

theorem State.serveUpdate_inv {s : State} (inv : s.schedule.Inv) {u : BeaconUpdate}
    (hu : ∀ n, u.airtime = some n → n ≤ 65535) : (s.serveUpdate u).schedule.Inv := by
  unfold State.serveUpdate
  split
  · exact inv
  · rename_i range
    simp only [Bool.not_eq_true', intervalInRange, decide_eq_false_iff_not, not_not] at range
    obtain ⟨low, high⟩ := range
    split
    · exact State.takeNewcomer_inv inv ‹_› hu low high
    · split
      · exact State.updateEntry_inv inv ‹_› hu low high
      · exact inv

/-! ### Missed beacons, clears and settings -/

theorem State.serveExpiry_inv {s : State} (inv : s.schedule.Inv) (i : Fin 8) (a : BitVec 48) :
    (s.serveExpiry i a).schedule.Inv := by
  unfold State.serveExpiry
  split
  · rename_i e he
    split
    · unfold State.missBeacon
      split
      · exact inv.free i
      · obtain ⟨⟨low, high, airtime, run, misaligned⟩, -, fresh⟩ := inv.entry he
        refine State.armSlot_inv inv ⟨low, high, airtime, ?_, misaligned⟩ fresh
        simp only [Neighbour.afterMiss]
        omega
    · exact inv
  · exact inv

theorem State.serveNeighbourClear_inv {s : State} (inv : s.schedule.Inv) : s.serveNeighbourClear.schedule.Inv := by
  obtain ⟨-, -, settings, requests⟩ := inv
  exact ⟨fun i e he => by simp [State.serveNeighbourClear] at he, fun i j e f he => by simp [State.serveNeighbourClear] at he,
    settings, requests⟩

theorem State.rearmSlot_armedOver {armed : Fin 8 → Prop} {s : State} (inv : s.schedule.ArmedOver armed) (i : Fin 8) :
    (s.rearmSlot i).schedule.ArmedOver fun j => armed j ∨ j = i := by
  unfold State.rearmSlot
  split
  · rename_i e he
    exact State.armSlot_armedOver inv (inv.1 i e he).1 fun j f hj same => inv.2.1 j i f e hj he same
  · rename_i free
    refine ⟨fun j e he => ⟨(inv.1 j e he).1, fun h => (inv.1 j e he).2 (h.resolve_right ?_)⟩, inv.2⟩
    rintro rfl
    rw [free] at he
    cases he

/-- Re-arming slot after slot arms the expiries of all of them. -/
theorem foldl_rearmSlot_armedOver (l : List (Fin 8)) {armed : Fin 8 → Prop} {s : State} (inv : s.schedule.ArmedOver armed) :
    (l.foldl State.rearmSlot s).schedule.ArmedOver fun j => armed j ∨ j ∈ l := by
  induction l generalizing s armed with
  | nil => simpa using inv
  | cons i l ih =>
    have := ih (State.rearmSlot_armedOver inv i)
    simpa only [List.foldl_cons, List.mem_cons, or_assoc] using this

theorem State.serveNeighbourSettings_inv {s : State} (inv : s.schedule.Inv) {n : NeighbourFields} (legal : n.Legal) :
    (s.serveNeighbourSettings n).schedule.Inv := by
  rw [Schedule.inv_iff] at inv ⊢
  obtain ⟨entries, distinct, -, requests⟩ := inv
  simp only [State.serveNeighbourSettings]
  split
  · rename_i same
    exact ⟨fun i e he => by simpa [same] using entries i e he, distinct, legal, requests⟩
  · have none : Schedule.ArmedOver (fun _ => False) { s.schedule with settings := n } :=
      ⟨fun i e he => ⟨(entries i e he).1, False.elim⟩, distinct, legal, requests⟩
    have all := foldl_rearmSlot_armedOver (List.finRange 8) (s := { s with schedule.settings := n }) none
    simpa using all

/-! ### Folds, records and the other operations -/

theorem State.endFoldIf_schedule (s : State) (b : Bool) : (s.endFoldIf b).schedule = s.schedule := by
  obtain ⟨_, _, _, h⟩ := s.endFoldIf_touches b
  rw [h]

theorem State.endFold_schedule (s : State) : s.endFold.schedule = s.schedule := s.endFoldIf_schedule true

theorem State.startFold_schedule (s : State) : s.startFold.schedule = s.schedule := by
  obtain ⟨_, _, _, h⟩ := s.startFold_touches
  rw [h]

theorem State.giveEvidence_schedule (s : State) (f : Fold) (a : Time) (n : Nat) (v : SliceSet) (k : CellStep) :
    (s.giveEvidence f a n v k).schedule = s.schedule := by
  unfold State.giveEvidence
  split
  · exact State.endFold_schedule _
  · rfl

theorem State.foldSweep_schedule (s : State) (f : Fold) (x : SpectralEntry) (v : Bool) :
    (s.foldSweep f x v).schedule = s.schedule := by
  unfold State.foldSweep
  split
  · exact State.endFold_schedule _
  · split
    · exact State.endFold_schedule _
    · split
      · exact State.endFold_schedule _
      · split
        · exact State.endFold_schedule _
        · rfl

theorem State.foldSpectral_schedule (s : State) (f : Fold) (x : SpectralEntry) (v : Bool) :
    (s.foldSpectral f x v).schedule = s.schedule := by
  obtain ⟨_, _, h⟩ := s.compareSequence_touches x.sequence
  unfold State.foldSpectral
  rw [State.foldSweep_schedule, h]

theorem State.foldFrameEvidence_schedule (s : State) (f : Fold) (x : ReceiveEntry) (v n : Bool) (k : CellStep) :
    (s.foldFrameEvidence f x v n k).schedule = s.schedule := by
  unfold State.foldFrameEvidence
  split
  · exact State.endFold_schedule _
  · split
    · exact State.giveEvidence_schedule ..
    · exact State.endFold_schedule _

theorem State.foldCompletion_schedule (s : State) (f : Fold) (x : CompletionEntry) (v : Bool) :
    (s.foldCompletion f x v).schedule = s.schedule := by
  unfold State.foldCompletion
  split
  · exact State.giveEvidence_schedule ..
  · exact State.endFold_schedule _

/-- An airtime is at most 65,535 (R107). -/
theorem airtimeOf_le {preamble : Nat} {rates : RateTable} {length : Nat} {rate : Fin 16} {w : Width} {n : Nat}
    (h : airtimeOf preamble rates length rate w = some n) : n ≤ 65535 := by
  unfold airtimeOf at h
  split at h
  · cases h
  · cases h; exact min_le_left _ _

theorem State.foldReceive_inv {s : State} (inv : s.schedule.Inv) (f : Fold) (x : ReceiveEntry) (v n : Bool) :
    (s.foldReceive f x v n).schedule.Inv := by
  unfold State.foldReceive
  split
  · rw [State.foldFrameEvidence_schedule]; exact inv
  · split
    · rw [State.endFold_schedule]; exact inv
    · exact State.sendSchedule_inv inv fun _ h => airtimeOf_le h
  · rw [State.endFold_schedule]; exact inv
  · rw [State.endFold_schedule]; exact inv

theorem State.sendNeighbourClear_inv {s : State} (inv : s.schedule.Inv) : s.sendNeighbourClear.schedule.Inv :=
  State.sendSchedule_inv (s := s.voidForNeighbour) inv (q := .clear) trivial

/-- A request that no fold waits for any more carries the same fields. -/
theorem orphaned_legal {q : ScheduleRequest} (h : q.Legal) : q.orphaned.Legal := by
  cases q <;> exact h

theorem State.radioChange_inv {s : State} (inv : s.schedule.Inv) (a b : RadioFields) :
    (s.radioChange a b).schedule.Inv := by
  have emptied : s.emptyFifo.schedule.Inv := by
    refine inv.requests fun q hq => .inr ?_
    obtain ⟨p, hp, rfl⟩ := List.mem_map.1 hq
    exact orphaned_legal (((Schedule.inv_iff _).1 inv).2.2.2 p hp)
  unfold State.radioChange
  split
  · exact State.sendNeighbourClear_inv (s := s.emptyFifo.sendMapClear) emptied
  · split
    · exact State.sendNeighbourClear_inv (s := s.sendMapClear) inv
    · exact inv

theorem State.acceptConfiguration_schedule (s : State) (w : Words8) (k : Nat) (b : Bool) :
    (s.acceptConfiguration w k b).schedule = s.schedule := by
  obtain ⟨_, _, h⟩ := s.acceptConfiguration_touches w k b
  rw [h]

/-- The reset values of the Schedule are legal (R102). -/
theorem schedule_reset_inv : Schedule.reset.Inv := by
  refine ⟨fun i e he => by simp [Schedule.reset] at he, fun i j e f he => by simp [Schedule.reset] at he, ?_, ?_, ?_⟩
  · unfold NeighbourFields.Legal; decide
  · intro n hn; cases hn
  · intro u b n hu; cases hu

theorem State.judgeRecord_schedule_inv {s : State} (inv : s.schedule.Inv) (w : Words8) :
    (s.judgeRecord w).schedule.Inv := by
  unfold State.judgeRecord
  split
  · obtain ⟨_, _, _, _, h⟩ := s.judgeWindows_touches w
    rw [h]; exact inv
  · unfold State.judgeRadio
    split
    · exact inv
    · refine State.radioChange_inv ?_ _ _
      rw [← s.acceptConfiguration_schedule w 2 (decide (field w.w2 8 8 < 16))] at inv
      exact inv
  · obtain ⟨_, _, h⟩ := s.judgeRates_touches w 3 0
    rw [h]; exact inv
  · obtain ⟨_, _, h⟩ := s.judgeRates_touches w 4 8
    rw [h]; exact inv
  · obtain ⟨_, _, _, _, _, h⟩ := s.judgeMains_touches w
    rw [h]; exact inv
  · obtain ⟨_, _, _, h⟩ := s.judgeMap_touches w
    rw [h]; exact inv
  · rw [← s.acceptConfiguration_schedule w 7 (w.neighbourCarried.clamped != w.neighbourCarried)] at inv
    exact State.sendSchedule_inv inv (q := .settings w.neighbourCarried.clamped) (neighbourCarried_legal w)
  · obtain ⟨_, _, h⟩ := s.judgeShaping_touches w
    rw [h]; exact inv
  · obtain ⟨_, _, _, h⟩ := s.judgeKeepalive_touches w
    rw [h]; exact inv
  · exact inv
  · rw [State.judgeClear_eq]
    refine inv.requests fun q hq => ?_
    rcases List.mem_append.1 hq with hq | hq
    · exact .inl hq
    · split at hq
      · rw [List.mem_singleton.1 hq]; exact .inr trivial
      · cases hq
  · exact schedule_reset_inv
  · exact inv

theorem State.takeTransfer_schedule_inv {s : State} (inv : s.schedule.Inv) (x : Transfer) :
    (s.takeTransfer x).schedule.Inv := by
  have course := taking s x
  generalize s.takeTransfer x = u at course ⊢
  cases course with
  | refused => exact inv
  | passed => unfold State.passThrough; split <;> exact inv
  | @read tag addr ws =>
    obtain ⟨_, _, _, _, h⟩ := s.takeRead_touches tag addr ws
    rw [h]; exact inv
  | @txWrite addr words =>
    obtain ⟨_, h⟩ := s.takeTxWrite_touches addr words
    rw [h]; exact inv
  | @rxWrite addr words =>
    obtain ⟨_, h⟩ := s.takeRxWrite_touches addr words
    rw [h]; exact inv
  | otherWrite => exact inv
  | @cpuWrite addr words =>
    obtain ⟨_, _, h⟩ := (s.forward (forwardedWrite .cpu addr words)).abandonments_touches addr words.length
    rw [h]; exact inv
  | @record addr w =>
    by_cases sum : w.sum = 0#32
    · rw [checkRecord_of_sum sum]; exact State.judgeRecord_schedule_inv (s := s.carried addr w) inv w
    · rw [checkRecord_of_sum_ne sum]; exact inv

theorem foldl_takeMiss_inv (l : List (Fin 8)) {s : State} (inv : s.schedule.Inv) :
    (l.foldl State.takeMiss s).schedule.Inv := by
  induction l generalizing s with
  | nil => exact inv
  | cons i l ih => exact ih (State.takeMiss_inv inv i)

theorem State.settle_inv {s : State} (inv : s.schedule.Inv) : s.settle.schedule.Inv := by
  obtain ⟨_, _, _, tick⟩ := s.takeTick_touches
  obtain ⟨_, _, _, expiry⟩ := s.takeTick.takeTrackerExpiry_touches
  obtain ⟨_, _, stales⟩ := s.takeTick.takeTrackerExpiry.takeStales_touches
  have before : s.takeTick.takeTrackerExpiry.takeStales.schedule.Inv := by
    rw [stales, expiry, tick]
    exact inv
  unfold State.settle State.takeMisses
  exact foldl_takeMiss_inv _ before

theorem State.tickMicrosecond_inv {s : State} (inv : s.schedule.Inv) : s.tickMicrosecond.schedule.Inv := by
  unfold State.tickMicrosecond
  split
  · exact inv
  · rw [State.advance_schedule]
    exact State.settle_inv inv

/-- Every effect keeps the Schedule's invariant. -/
theorem Effect.keeps_schedule_inv {c : Instr} {s u : State} (inv : s.schedule.Inv) (e : Effect c s u) : u.schedule.Inv := by
  cases e with
  | idle => exact inv
  | pinReset => exact schedule_reset_inv
  | released => exact inv
  | presents => exact State.takeTransfer_schedule_inv inv _
  | tick => obtain ⟨_, _, _, h⟩ := s.takeTick_touches; rw [h]; exact inv
  | microsecond => exact State.tickMicrosecond_inv inv
  | descriptor => obtain ⟨_, _, _, _, h⟩ := s.nextDescriptor_touches; rw [h]; exact inv
  | reportWord => obtain ⟨_, _, h⟩ := s.nextReportWord_touches; rw [h]; exact inv
  | completionWord => obtain ⟨_, _, _, _, _, h⟩ := s.nextCompletion_touches; rw [h]; exact inv
  | record => obtain ⟨_, _, _, _, h⟩ := s.nextRecord_touches; rw [h]; exact inv
  | @admission v => obtain ⟨_, _, _, _, h⟩ := s.endAdmission_touches v; rw [h]; exact inv
  | stale i => obtain ⟨_, _, h⟩ := s.takeStale_touches i; rw [h]; exact inv
  | mainsEdge r => obtain ⟨_, _, _, _, h⟩ := s.mainsTransition_touches r; rw [h]; exact inv
  | lockExpiry => obtain ⟨_, _, h⟩ := s.takeLockExpiry_touches; rw [h]; exact inv
  | coastExpiry => obtain ⟨_, _, _, h⟩ := s.takeCoastExpiry_touches; rw [h]; exact inv
  | spectralFold => rw [State.foldSpectral_schedule, State.startFold_schedule]; exact inv
  | receiveFold => exact State.foldReceive_inv (by rw [State.startFold_schedule]; exact inv) _ _ _ _
  | completionFold => rw [State.foldCompletion_schedule, State.startFold_schedule]; exact inv
  | @evidence e forFold rest =>
    obtain ⟨_, _, h⟩ := s.popMap.serveEvidence_touches e
    rw [State.endFoldIf_schedule, h]; exact inv
  | age => obtain ⟨_, _, h⟩ := s.popMap.serveAge_touches; rw [h]; exact inv
  | mapClear => exact inv
  | @mapSettings m => obtain ⟨_, _, h⟩ := s.popMap.serveSettings_touches m; rw [h]; exact inv
  | snapshot => obtain ⟨_, h⟩ := s.takeSnapshot_touches; rw [h]; exact inv
  | @beaconUpdate u forFold rest head =>
    rw [State.endFoldIf_schedule]
    have legal := ((Schedule.inv_iff _).1 inv).2.2.2 (.update u forFold) (by simp [head])
    exact State.serveUpdate_inv (State.popSchedule_inv inv) legal
  | missExpiry i => exact State.takeMiss_inv inv i
  | missedBeacon => exact State.serveExpiry_inv (State.popSchedule_inv inv) _ _
  | neighbourClear => exact State.serveNeighbourClear_inv (State.popSchedule_inv inv)
  | @neighbourSettings n rest head =>
    have legal := ((Schedule.inv_iff _).1 inv).2.2.2 (.settings n) (by simp [head])
    exact State.serveNeighbourSettings_inv (State.popSchedule_inv inv) legal

end Sys2Proof.Machine
end

section
/-! What is empty in UNCONFIGURED stays empty (O56), and O56 itself. -/

namespace Sys2Proof.Machine

/-! ### Pieces and segments of a TX-DMA read -/

/-- Stored pieces are delivered in turn while no admission holds them (R8). -/
theorem State.passOnAll_stored (outs : List (List Word)) {s : State} (free : s.admission.inProgress = none) :
    s.passOnAll (outs.map Piece.stored) = (s.deliver outs.flatten, []) := by
  induction outs generalizing s with
  | nil => simp [State.passOnAll, State.deliver]
  | cons ws outs ih =>
    rw [List.map_cons, State.passOnAll, free]
    simp only [Option.isSome_none, Bool.false_eq_true, if_false, State.passOn]
    rw [ih (s := s.deliver ws) free]
    simp [State.deliver]

/-- The leading segments outside the TX ring are delivered with what is before them; the rest waits to return. -/
theorem splitOutside_outside (outs : List (List Word)) {later : List Segment} (h : ∀ x, later.head? ≠ some (.outside x)) :
    splitOutside (outs.map Segment.outside ++ later) = (outs.map Piece.stored, later) := by
  induction outs with
  | nil =>
    cases later with
    | nil => rfl
    | cons g more =>
      cases g with
      | outside ws => exact absurd rfl (h ws)
      | partly ws => rfl
      | whole i d => rfl
  | cons ws outs ih => simp [splitOutside, ih]

/-- Every list of segments begins with a run outside the TX ring, which may be empty. -/
theorem exists_outside (gs : List Segment) : ∃ (outs : List (List Word)) (later : List Segment),
    gs = outs.map Segment.outside ++ later ∧ ∀ x, later.head? ≠ some (.outside x) := by
  induction gs with
  | nil => exact ⟨[], [], rfl, by simp⟩
  | cons g gs ih =>
    cases g with
    | outside ws =>
      obtain ⟨outs, later, rfl, h⟩ := ih
      exact ⟨ws :: outs, later, rfl, h⟩
    | partly ws => exact ⟨[], _, rfl, by simp⟩
    | whole i d => exact ⟨[], _, rfl, by simp⟩

/-- Pieces none of which is sampled are stored words. -/
theorem exists_stored (ps : List Piece) (h : ∀ i d x, Piece.sampled i d x ∉ ps) :
    ∃ outs : List (List Word), ps = outs.map Piece.stored := by
  induction ps with
  | nil => exact ⟨[], rfl⟩
  | cons p ps ih =>
    obtain ⟨outs, rfl⟩ := ih fun i d x hm => h i d x (List.mem_cons_of_mem _ hm)
    cases p with
    | stored ws => exact ⟨ws :: outs, rfl⟩
    | sampled i d x => exact absurd List.mem_cons_self (h i d x)

/-- A TX-DMA read goes on with stored words that nothing holds: they are delivered, and the read ends with the last segment. -/
theorem State.continueRead_stored (outs : List (List Word)) (later : List Segment) {s : State}
    (free : s.admission.inProgress = none) :
    s.continueRead later (outs.map Piece.stored) = { s.deliver outs.flatten with
      bus := { s.bus with
        uPort := s.bus.uPort ++ outs.flatten, service := if later = [] then none else some (.descriptors later []) } } := by
  unfold State.continueRead
  rw [State.passOnAll_stored outs free]
  cases later <;> simp [State.keepReading, State.deliver, free]

/-! ### The fold of no entry -/

theorem State.startFold_of_empty {s : State} (h : s.intake.fifo = []) : s.startFold = s := by
  unfold State.startFold
  split
  · rename_i e rest _ hf; rw [h] at hf; cases hf
  · rfl

theorem State.foldInHand_of_empty {s : State} (h : s.intake.fifo = []) : s.startFold.foldInHand = none := by
  rw [State.startFold_of_empty h]
  unfold State.foldInHand
  split
  · rename_i f e rest _ hf; rw [h] at hf; cases hf
  · rfl

/-! ### Emptiness -/

/-- What UNCONFIGURED finds empty (R6, R66, R87, R102, R128, R140). -/
structure Vacant (s : State) : Prop where
  entries : s.rewriter.entries = []
  inProgress : s.admission.inProgress = none
  noneSampled : ∀ a b, s.bus.service = some (.descriptors a b) → ∀ i d x, Piece.sampled i d x ∉ b
  slots : ∀ i : Fin 8, s.schedule.slots[i] = none
  fifo : s.intake.fifo = []
  fold : s.intake.fold = none
  noUpdate : ∀ u b, ScheduleRequest.update u b ∉ s.schedule.requests
  noRecords : ∀ a l, s.bus.service ≠ some (.records a l)

theorem unconfiguredEmpty_iff (s : State) : s.UnconfiguredEmpty ↔ (s.policy.mode = .unconfigured → Vacant s) := by
  constructor
  · rintro ⟨pending, empty⟩ mode
    obtain ⟨entries, inProgress, noneSampled⟩ := pending mode
    obtain ⟨slots, fifo, fold, noUpdate, noRecords⟩ := empty mode
    exact ⟨entries, inProgress, noneSampled, slots, fifo, fold, noUpdate, noRecords⟩
  · exact fun h => ⟨fun mode => ⟨(h mode).entries, (h mode).inProgress, (h mode).noneSampled⟩,
      fun mode => ⟨(h mode).slots, (h mode).fifo, (h mode).fold, (h mode).noUpdate, (h mode).noRecords⟩⟩

namespace Vacant

/-- An update of what is not spoken of. -/
theorem congr {s t : State} (v : Vacant s)
    (same : (t.rewriter, t.admission, t.bus.service, t.schedule, t.intake.fifo, t.intake.fold) =
      (s.rewriter, s.admission, s.bus.service, s.schedule, s.intake.fifo, s.intake.fold)) : Vacant t := by
  obtain ⟨rewriter, admission, service, schedule, fifo, fold⟩ : t.rewriter = s.rewriter ∧ t.admission = s.admission ∧
    t.bus.service = s.bus.service ∧ t.schedule = s.schedule ∧ t.intake.fifo = s.intake.fifo ∧
    t.intake.fold = s.intake.fold := by simpa using same
  refine ⟨?_, ?_, ?_, ?_, ?_, ?_, ?_, ?_⟩ <;> simp only [rewriter, admission, service, schedule, fifo, fold]
  exacts [v.entries, v.inProgress, v.noneSampled, v.slots, v.fifo, v.fold, v.noUpdate, v.noRecords]

/-- Requests join that are no beacon updates. -/
theorem requests {s : State} (v : Vacant s) {l : List ScheduleRequest}
    (h : ∀ u b, ScheduleRequest.update u b ∈ l → ScheduleRequest.update u b ∈ s.schedule.requests) :
    Vacant { s with schedule.requests := l } :=
  ⟨v.entries, v.inProgress, v.noneSampled, v.slots, v.fifo, v.fold, fun u b hu => v.noUpdate u b (h u b hu), v.noRecords⟩

/-- The service ends, or becomes one in which nothing is sampled and that carries no records. -/
theorem service {s t : State} (v : Vacant s)
    (same : (t.rewriter, t.admission, t.schedule, t.intake) = (s.rewriter, s.admission, s.schedule, s.intake))
    (noneSampled : ∀ a b, t.bus.service = some (.descriptors a b) → ∀ i d x, Piece.sampled i d x ∉ b)
    (noRecords : ∀ a l, t.bus.service ≠ some (.records a l)) : Vacant t := by
  obtain ⟨rewriter, admission, schedule, intake⟩ : t.rewriter = s.rewriter ∧ t.admission = s.admission ∧
    t.schedule = s.schedule ∧ t.intake = s.intake := by simpa using same
  exact ⟨by rw [rewriter, v.entries], by rw [admission, v.inProgress], noneSampled, by rw [schedule]; exact v.slots,
    by rw [intake, v.fifo], by rw [intake, v.fold], by rw [schedule]; exact v.noUpdate, noRecords⟩

theorem popSchedule {s : State} (v : Vacant s) : Vacant s.popSchedule :=
  v.requests fun _ _ h => List.mem_of_mem_tail h

theorem sendMapClear {s : State} (v : Vacant s) : Vacant s.sendMapClear := by
  refine ⟨v.entries, v.inProgress, v.noneSampled, v.slots, ?_, v.fold, v.noUpdate, v.noRecords⟩
  simp [State.sendMapClear, State.voidForMap, State.sendMap, v.fifo]

theorem sendNeighbourClear {s : State} (v : Vacant s) : Vacant s.sendNeighbourClear := by
  refine ⟨v.entries, v.inProgress, v.noneSampled, v.slots, ?_, v.fold, fun u b hu => v.noUpdate u b ?_, v.noRecords⟩
  · simp [State.sendNeighbourClear, State.voidForNeighbour, State.sendSchedule, v.fifo]
  · simpa [State.sendNeighbourClear, State.voidForNeighbour, State.sendSchedule] using hu

theorem emptyFifo {s : State} (v : Vacant s) : Vacant s.emptyFifo := by
  refine ⟨v.entries, v.inProgress, v.noneSampled, v.slots, rfl, rfl, fun u b hu => ?_, v.noRecords⟩
  obtain ⟨q, hq, e⟩ := List.mem_map.1 hu
  cases q with
  | update u' b' => exact v.noUpdate u' b' hq
  | expiry i a => cases e
  | clear => cases e
  | settings n => cases e

theorem emptyPending {s : State} (v : Vacant s) : Vacant s.emptyPending :=
  ⟨rfl, v.inProgress, v.noneSampled, v.slots, v.fifo, v.fold, v.noUpdate, v.noRecords⟩

theorem endFoldIf {s : State} (v : Vacant s) (b : Bool) : Vacant (s.endFoldIf b) := by
  unfold State.endFoldIf State.endFold
  split
  · rw [State.startFold_of_empty (by simp [v.fifo])]
    exact ⟨v.entries, v.inProgress, v.noneSampled, v.slots, by simp [v.fifo], rfl, v.noUpdate, v.noRecords⟩
  · exact v

theorem findEntry {s : State} (v : Vacant s) (i : Nat) : s.findEntry i = none := by
  simp [State.findEntry, v.entries]

theorem takeMiss {s : State} (v : Vacant s) (i : Fin 8) : s.takeMiss i = s := by
  unfold State.takeMiss
  rw [v.slots i]

theorem takeMisses {s : State} (v : Vacant s) : s.takeMisses = s := by
  unfold State.takeMisses
  exact List.foldl_fixed' (fun i => v.takeMiss i) _

theorem takeStale {s : State} (v : Vacant s) (i : Nat) : s.takeStale i = s := by
  unfold State.takeStale
  rw [v.findEntry i]

theorem serveExpiry {s : State} (v : Vacant s) (i : Fin 8) (a : BitVec 48) : s.serveExpiry i a = s := by
  unfold State.serveExpiry
  rw [v.slots i]

theorem serveNeighbourSettings {s : State} (v : Vacant s) (n : NeighbourFields) : Vacant (s.serveNeighbourSettings n) := by
  have held : Vacant { s with schedule.settings := n } :=
    ⟨v.entries, v.inProgress, v.noneSampled, v.slots, v.fifo, v.fold, v.noUpdate, v.noRecords⟩
  have rearm : ∀ i, State.rearmSlot { s with schedule.settings := n } i = { s with schedule.settings := n } := fun i => by
    unfold State.rearmSlot
    rw [held.slots i]
  simp only [State.serveNeighbourSettings]
  split
  · exact held
  · rw [List.foldl_fixed' rearm]
    exact held

end Vacant

/-! ### Transfers in UNCONFIGURED -/

theorem State.takeTxRead_vacant {s : State} (v : Vacant s) (addr : Addr) (ws : List Word) :
    Vacant (s.takeTxRead addr ws) := by
  simp only [State.takeTxRead]
  split
  · exact v.congr rfl
  · rename_i w _
    obtain ⟨outs, later, parts, head⟩ := exists_outside (segmentsOf w addr ws)
    simp only [parts, splitOutside_outside outs head]
    rw [State.continueRead_stored outs later (s := s.forward _) v.inProgress]
    refine v.service rfl (fun a b hb => ?_) (fun a l hl => ?_)
    · simp only at hb
      split at hb <;> cases hb
      simp
    · simp only at hl
      split at hl <;> cases hl

theorem State.nextDescriptor_vacant {s : State} (v : Vacant s) (mode : s.policy.mode = .unconfigured) :
    Vacant s.nextDescriptor := by
  simp only [State.nextDescriptor]
  split
  · rename_i g rest behind service
    obtain ⟨before, rfl⟩ := exists_stored behind (v.noneSampled _ _ service)
    obtain ⟨outs, later, rfl, head⟩ := exists_outside rest
    obtain ⟨ws, piece⟩ : ∃ ws, (s.returnSegment g).2 = .stored ws := by
      cases g <;> simp [State.returnSegment, State.sampleDescriptor, mode]
    have same : (s.returnSegment g).1 = s := by cases g <;> simp [State.returnSegment, mode]
    rw [splitOutside_outside outs head, piece, same,
      show before.map Piece.stored ++ Piece.stored ws :: outs.map Piece.stored = (before ++ ws :: outs).map Piece.stored by simp,
      State.continueRead_stored _ later v.inProgress]
    refine v.service rfl (fun a b hb => ?_) (fun a l hl => ?_)
    · simp only at hb
      split at hb <;> cases hb
      simp
    · simp only at hl
      split at hl <;> cases hl
  · exact v

theorem State.nextCompletion_vacant {s : State} (v : Vacant s) : Vacant s.nextCompletion := by
  unfold State.nextCompletion
  split
  · rename_i index w rest _
    have untracked : s.complete index w.data (word5After rest) = s.count .untracked := by
      unfold State.complete
      rw [v.findEntry index]
    rw [untracked]
    refine v.service rfl (fun a b hb => ?_) (fun a l hl => ?_)
    · rw [State.sendPlain_service] at hb
      split at hb <;> cases hb
    · rw [State.sendPlain_service] at hl
      split at hl <;> cases hl
  · exact v

theorem State.nextReportWord_vacant {s : State} (v : Vacant s) : Vacant s.nextReportWord := by
  simp only [State.nextReportWord]
  split
  · split
    · obtain ⟨_, h⟩ := State.takeSnapshot_touches
        { s.deliver _ with bus := { (s.deliver [s.substituted _ _]).bus with service := none } }
      rw [h]
      exact v.service rfl (by simp) (by simp)
    · exact v.service rfl (by simp) (by simp)
  · exact v

/-! ### The tracker's marks on an empty FIFO -/

/-- The fold in progress stays, and the FIFO keeps its entries but for their marks. -/
def SameEntries (s t : State) : Prop := t.intake.fold = s.intake.fold ∧ t.intake.fifo.length = s.intake.fifo.length

theorem State.relockClear_sameEntries (s : State) : SameEntries s s.relockClear := by
  unfold State.relockClear
  split
  · exact ⟨rfl, by simp [State.sendMapClear, State.voidForMap, State.sendMap]⟩
  · exact ⟨rfl, rfl⟩

theorem State.referenceInLocking_sameEntries (s : State) (t : Time) (p : Int) :
    SameEntries s (s.referenceInLocking t p) := by
  unfold State.referenceInLocking
  split
  · exact ⟨rfl, rfl⟩
  · split
    · exact ⟨rfl, rfl⟩
    · split
      · exact (s.setFlag .lockGained).relockClear_sameEntries
      · exact ⟨rfl, rfl⟩

theorem State.referenceEdge_sameEntries (s : State) (t : Time) : SameEntries s (s.referenceEdge t) := by
  unfold State.referenceEdge
  split
  · exact ⟨rfl, rfl⟩
  · exact ⟨rfl, rfl⟩
  · exact ⟨rfl, rfl⟩
  · unfold State.referenceInSeeking; split <;> exact ⟨rfl, rfl⟩
  · exact s.referenceInLocking_sameEntries ..
  · unfold State.referenceInLocked; split
    · exact ⟨rfl, rfl⟩
    · split <;> exact ⟨rfl, rfl⟩
  · unfold State.referenceInCoasting; split
    · exact ⟨rfl, rfl⟩
    · split <;> exact ⟨rfl, rfl⟩

theorem State.mainsTransition_sameEntries (s : State) (r : Bool) : SameEntries s (s.mainsTransition r) := by
  simp only [State.mainsTransition]
  split
  · exact ⟨rfl, rfl⟩
  · split
    · unfold State.considerEdge
      split
      · simp only [State.acceptEdge]
        split
        · exact ⟨rfl, rfl⟩
        · exact State.referenceEdge_sameEntries _ _
      · exact ⟨rfl, rfl⟩
    · exact ⟨rfl, rfl⟩

theorem State.mainsTransition_vacant {s : State} (v : Vacant s) (r : Bool) : Vacant (s.mainsTransition r) := by
  obtain ⟨fold, fifo⟩ := s.mainsTransition_sameEntries r
  obtain ⟨_, _, _, _, h⟩ := s.mainsTransition_touches r
  rw [h] at fold fifo ⊢
  exact ⟨v.entries, v.inProgress, v.noneSampled, v.slots, by simpa [v.fifo] using fifo, fold.trans v.fold, v.noUpdate,
    v.noRecords⟩

/-! ### Control records in UNCONFIGURED -/

theorem State.acceptConfiguration_vacant {s : State} (v : Vacant s) (w : Words8) (k : Nat) (b : Bool) :
    Vacant (s.acceptConfiguration w k b) := by
  obtain ⟨_, _, h⟩ := s.acceptConfiguration_touches w k b
  rw [h]
  exact v.congr rfl

theorem State.radioChange_vacant {s : State} (v : Vacant s) (a b : RadioFields) : Vacant (s.radioChange a b) := by
  unfold State.radioChange
  split
  · exact v.emptyFifo.sendMapClear.sendNeighbourClear.emptyPending
  · split
    · exact v.sendMapClear.sendNeighbourClear.emptyPending
    · exact v

theorem State.trackerSettings_vacant {s : State} (v : Vacant s) (m : EdgeMode) (n : Nat) :
    Vacant (s.trackerSettings m n) := by
  unfold State.trackerSettings
  split
  · exact v.congr rfl
  · exact v.sendMapClear.congr rfl

/-- RESTART empties everything; it is taken while no transfer is in service. -/
theorem State.judgeRestart_vacant {s : State} (idle : s.bus.service = none) (w : Words8) : Vacant (s.judgeRestart w) := by
  have service : (s.judgeRestart w).bus.service = none := idle
  have schedule : (s.judgeRestart w).schedule = .reset := rfl
  refine ⟨rfl, rfl, ?_, ?_, rfl, rfl, ?_, ?_⟩ <;> simp [service, schedule, Schedule.reset]

theorem assertReset_vacant (s : State) : Vacant s.assertReset := by
  have service : s.assertReset.bus.service = none := rfl
  have schedule : s.assertReset.schedule = .reset := rfl
  refine ⟨rfl, rfl, ?_, ?_, rfl, rfl, ?_, ?_⟩ <;> simp [service, schedule, Schedule.reset]

theorem State.judgeKeepalive_vacant {s : State} (v : Vacant s) (mode : s.policy.mode = .unconfigured) (w : Words8) :
    Vacant (s.judgeKeepalive w) := by
  obtain ⟨_, clamp⟩ := s.countClamp_touches (field w.w2 16 8 == 0)
  simp only [State.judgeKeepalive, mode, if_true, clamp]
  split
  · exact v.congr rfl
  · split
    · obtain ⟨_, h⟩ := State.releaseKeepalive_touches _
      rw [h]
      exact v.congr rfl
    · exact v.congr rfl

theorem State.judgeRecord_vacant {s : State} (v : Vacant s) (mode : s.policy.mode = .unconfigured)
    (idle : s.bus.service = none) (w : Words8) : Vacant (s.judgeRecord w) := by
  unfold State.judgeRecord
  split
  · unfold State.judgeWindows
    split
    · exact v.congr rfl
    · refine Vacant.emptyPending (Vacant.congr (State.acceptConfiguration_vacant v w 1 false) rfl)
  · unfold State.judgeRadio
    split
    · exact v.congr rfl
    · refine State.radioChange_vacant ?_ _ _
      exact (State.acceptConfiguration_vacant v w 2 (decide (field w.w2 8 8 < 16))).congr rfl
  · obtain ⟨_, _, h⟩ := s.judgeRates_touches w 3 0
    rw [h]; exact v.congr rfl
  · obtain ⟨_, _, h⟩ := s.judgeRates_touches w 4 8
    rw [h]; exact v.congr rfl
  · simp only [State.judgeMains]
    refine State.trackerSettings_vacant ?_ _ _
    exact (State.acceptConfiguration_vacant v w 5 (field w.w2 8 4 == 0)).congr rfl
  · obtain ⟨_, _, _, h⟩ := s.judgeMap_touches w
    rw [h]; exact v.congr rfl
  · have accepted := State.acceptConfiguration_vacant v w 7 (w.neighbourCarried.clamped != w.neighbourCarried)
    unfold State.judgeNeighbour
    exact (accepted.requests (l := _ ++ [.settings w.neighbourCarried.clamped]) fun u b hu => by simpa using hu).congr rfl
  · obtain ⟨_, _, h⟩ := s.judgeShaping_touches w
    rw [h]; exact v.congr rfl
  · exact State.judgeKeepalive_vacant v mode w
  · exact v.congr rfl
  · rw [State.judgeClear_eq]
    refine ⟨v.entries, v.inProgress, v.noneSampled, v.slots, by simp [v.fifo], v.fold, fun u b hu => v.noUpdate u b ?_,
      v.noRecords⟩
    rcases List.mem_append.1 hu with hu | hu
    · exact hu
    · split at hu <;> simp at hu
  · exact State.judgeRestart_vacant idle w
  · exact v.congr rfl

/-! ### The mode -/

/-- No kind received leads back to UNCONFIGURED (R156). -/
theorem State.acceptConfiguration_mode (s : State) (w : Words8) (k : Nat) (b : Bool)
    (h : (s.acceptConfiguration w k b).policy.mode = .unconfigured) : s.policy.mode = .unconfigured := by
  have mode : (s.acceptConfiguration w k b).policy.mode =
      if s.policy.mode = .unconfigured ∧ (s.acceptConfiguration w k b).policy.received = 0xFF#8 then .standby
        else s.policy.mode := by
    unfold State.acceptConfiguration State.countClamp
    split <;> rfl
  rw [mode] at h
  split at h
  · cases h
  · exact h

theorem State.refreshKeepalive_mode (s : State) (p : Nat) (h : (s.refreshKeepalive p).policy.mode = .unconfigured) :
    s.policy.mode = .unconfigured := by
  simp only [State.refreshKeepalive] at h
  split at h
  · cases h
  · exact h
  · exact h

theorem State.releaseKeepalive_mode (s : State) (h : s.releaseKeepalive.policy.mode = .unconfigured) :
    s.policy.mode = .unconfigured := by
  unfold State.releaseKeepalive at h
  split at h
  · cases h
  · exact h
  · exact h

theorem State.judgeKeepalive_mode (s : State) (w : Words8) (h : (s.judgeKeepalive w).policy.mode = .unconfigured) :
    s.policy.mode = .unconfigured := by
  obtain ⟨_, clamp⟩ := s.countClamp_touches (field w.w2 16 8 == 0)
  simp only [State.judgeKeepalive, clamp] at h
  split at h
  · split at h
    · exact h
    · have before := State.refreshKeepalive_mode _ _ h
      exact before
  · split at h
    · have before := State.releaseKeepalive_mode _ h
      exact before
    · exact h

theorem State.decreaseKeepalive_mode (s : State) (h : s.decreaseKeepalive.policy.mode = .unconfigured) :
    s.policy.mode = .unconfigured := by
  unfold State.decreaseKeepalive at h
  split at h
  · split at h
    · cases h
    · exact h
  · exact h
  · exact h

theorem State.takeTick_mode (s : State) (h : s.takeTick.policy.mode = .unconfigured) : s.policy.mode = .unconfigured := by
  unfold State.takeTick at h
  split at h
  · exact State.decreaseKeepalive_mode { s with air.tickDue := false } h
  · exact h

theorem State.tickMicrosecond_mode (s : State) (h : s.tickMicrosecond.policy.mode = .unconfigured) :
    s.policy.mode = .unconfigured := by
  unfold State.tickMicrosecond at h
  split at h
  · exact h
  · rw [State.advance_policy, s.settle_quiet.policy] at h
    exact s.takeTick_mode h

/-- Only RESTART leads back to UNCONFIGURED among the records (R156). -/
theorem State.judgeRecord_mode (s : State) (w : Words8) (h : (s.judgeRecord w).policy.mode = .unconfigured) :
    s.policy.mode = .unconfigured ∨ s.judgeRecord w = s.judgeRestart w := by
  unfold State.judgeRecord at h ⊢
  split at h
  · left
    unfold State.judgeWindows at h
    split at h
    · exact h
    · exact s.acceptConfiguration_mode w 1 false h
  · left
    unfold State.judgeRadio at h
    split at h
    · exact h
    · rw [(State.radioChange_quiet _ _ _).policy] at h
      exact s.acceptConfiguration_mode w 2 _ h
  · exact .inl (s.acceptConfiguration_mode w 3 false h)
  · exact .inl (s.acceptConfiguration_mode w 4 false h)
  · left
    simp only [State.judgeMains] at h
    obtain ⟨_, _, _, e⟩ := State.trackerSettings_touches
      { s.acceptConfiguration w 5 (field w.w2 8 4 == 0) with
        policy := { (s.acceptConfiguration w 5 (field w.w2 8 4 == 0)).policy with
          edgeMode := edgeModeOfCode (field w.w2 0 2), coastLimit := atLeastOne (field w.w2 8 4) } }
      (edgeModeOfCode (field w.w2 0 2)) (atLeastOne (field w.w2 8 4))
    rw [e] at h
    exact s.acceptConfiguration_mode w 5 _ h
  · unfold State.judgeMap at h
    exact .inl (s.acceptConfiguration_mode w 6 (w.mapCarried.clamped != w.mapCarried) h)
  · unfold State.judgeNeighbour at h
    exact .inl (s.acceptConfiguration_mode w 7 (w.neighbourCarried.clamped != w.neighbourCarried) h)
  · exact .inl (s.acceptConfiguration_mode w 8 (w.shapingCarried.timeoutMs == 0) h)
  · exact .inl (s.judgeKeepalive_mode w h)
  · exact .inl h
  · rw [State.judgeClear_eq] at h
    exact .inl h
  · exact .inr rfl
  · exact .inl h

/-! ### Every command -/

theorem State.takeTransfer_vacant {s : State} (v : Vacant s) (mode : s.policy.mode = .unconfigured) (x : Transfer) :
    Vacant (s.takeTransfer x) := by
  have course := taking s x
  generalize s.takeTransfer x = u at course ⊢
  cases course with
  | refused => exact v
  | passed => unfold State.passThrough; split <;> exact v.congr rfl
  | @read tag addr ws =>
    unfold State.takeRead
    split
    · unfold State.takeCpuRead
      dsimp only
      split
      · exact v.congr rfl
      · split
        · exact v.service rfl (by simp) (by simp)
        · exact v.congr rfl
    · exact State.takeTxRead_vacant v addr ws
    · exact v.congr rfl
    · exact v.congr rfl
  | @txWrite addr words =>
    have : s.takeTxWrite addr words = s.forward (forwardedWrite .txDma addr words) := by
      unfold State.takeTxWrite State.observesWrites
      simp [mode]
    rw [this]
    exact v.congr rfl
  | @rxWrite addr words =>
    have : s.takeRxWrite addr words = s.forward (forwardedWrite .rxDma addr words) := by
      unfold State.takeRxWrite State.observesWrites
      simp [mode]
    rw [this]
    exact v.congr rfl
  | otherWrite => exact v.congr rfl
  | @cpuWrite addr words =>
    have : (s.forward (forwardedWrite .cpu addr words)).abandonments addr words.length =
        s.forward (forwardedWrite .cpu addr words) := by
      unfold State.abandonments State.observesWrites
      simp [mode, State.forward]
    rw [this]
    exact v.congr rfl
  | @record addr w takes =>
    have carried : Vacant (s.carried addr w) := v.congr rfl
    by_cases sum : w.sum = 0#32
    · rw [checkRecord_of_sum sum]
      exact State.judgeRecord_vacant carried mode takes.2.1 w
    · rw [checkRecord_of_sum_ne sum]
      exact carried.congr rfl

theorem State.takeTick_vacant {s : State} (v : Vacant s) : Vacant s.takeTick := by
  obtain ⟨_, _, _, h⟩ := s.takeTick_touches
  rw [h]
  exact v.congr rfl

theorem State.tickMicrosecond_vacant {s : State} (v : Vacant s) : Vacant s.tickMicrosecond := by
  unfold State.tickMicrosecond
  split
  · exact v
  · have expired : Vacant s.takeTick.takeTrackerExpiry := by
      obtain ⟨_, _, _, h⟩ := s.takeTick.takeTrackerExpiry_touches
      rw [h]
      exact s.takeTick_vacant v |>.congr rfl
    have settled : s.settle = s.takeTick.takeTrackerExpiry := by
      unfold State.settle State.takeStales
      rw [List.foldl_fixed' expired.takeStale, expired.takeMisses]
    rw [settled]
    exact expired.congr rfl

/-- In UNCONFIGURED every effect leaves empty what is empty. -/
theorem Effect.keeps_vacant {c : Instr} {s u : State} (v : Vacant s) (mode : s.policy.mode = .unconfigured)
    (e : Effect c s u) : Vacant u := by
  have noFold : s.startFold.foldInHand = none := State.foldInHand_of_empty v.fifo
  cases e with
  | idle => exact v
  | pinReset => exact assertReset_vacant s
  | released => exact v.congr rfl
  | presents => exact State.takeTransfer_vacant v mode _
  | tick => exact State.takeTick_vacant v
  | microsecond => exact State.tickMicrosecond_vacant v
  | descriptor => exact State.nextDescriptor_vacant v mode
  | reportWord => exact State.nextReportWord_vacant v
  | completionWord => exact State.nextCompletion_vacant v
  | record =>
    have : s.nextRecord = s := by
      unfold State.nextRecord
      split
      · exact absurd ‹_› (v.noRecords _ _)
      · rfl
    rw [this]
    exact v
  | admission h => rw [v.inProgress] at h; cases h
  | stale i => rw [v.takeStale i]; exact v
  | mainsEdge r => exact State.mainsTransition_vacant v r
  | lockExpiry => obtain ⟨_, _, h⟩ := s.takeLockExpiry_touches; rw [h]; exact v.congr rfl
  | coastExpiry => obtain ⟨_, _, _, h⟩ := s.takeCoastExpiry_touches; rw [h]; exact v.congr rfl
  | spectralFold h => rw [noFold] at h; cases h
  | receiveFold h => rw [noFold] at h; cases h
  | completionFold h => rw [noFold] at h; cases h
  | @evidence e forFold rest =>
    obtain ⟨_, _, h⟩ := s.popMap.serveEvidence_touches e
    rw [h]
    refine Vacant.endFoldIf ?_ forFold
    exact v.congr rfl
  | age => obtain ⟨_, _, h⟩ := s.popMap.serveAge_touches; rw [h]; exact v.congr rfl
  | mapClear => exact v.congr rfl
  | @mapSettings m => obtain ⟨_, _, h⟩ := s.popMap.serveSettings_touches m; rw [h]; exact v.congr rfl
  | snapshot => obtain ⟨_, h⟩ := s.takeSnapshot_touches; rw [h]; exact v.congr rfl
  | @beaconUpdate u forFold rest head => exact absurd (by simp [head]) (v.noUpdate u forFold)
  | missExpiry i => rw [v.takeMiss i]; exact v
  | missedBeacon => rw [v.popSchedule.serveExpiry]; exact v.popSchedule
  | neighbourClear =>
    have p := v.popSchedule
    exact ⟨p.entries, p.inProgress, p.noneSampled, fun i => by simp [State.serveNeighbourClear], p.fifo, p.fold, p.noUpdate,
      p.noRecords⟩
  | neighbourSettings => exact v.popSchedule.serveNeighbourSettings _

/-- An effect leads to UNCONFIGURED only from UNCONFIGURED, or by emptying everything. -/
theorem Effect.mode_or_vacant {c : Instr} {s u : State} (e : Effect c s u) (mode : u.policy.mode = .unconfigured) :
    s.policy.mode = .unconfigured ∨ Vacant u := by
  obtain q | rfl | rfl | ⟨-, rfl⟩ | ⟨addr, w, -, takes, -, rfl⟩ := e.quiet_or
  · exact .inl (q.policy ▸ mode)
  · exact .inl (s.takeTick_mode mode)
  · exact .inl (s.tickMicrosecond_mode mode)
  · exact .inr (assertReset_vacant s)
  · obtain before | restart := (s.carried addr w).judgeRecord_mode w mode
    · exact .inl before
    · rw [restart]
      exact .inr (State.judgeRestart_vacant (s := s.carried addr w) takes.2.1 w)

/-- Settles O56: the first part by the Schedule's operations one by one; the second since in UNCONFIGURED every effect leaves
empty what is empty, and only a pin reset and RESTART lead back there. -/
theorem scheduleStaysLegal : Obligations.ScheduleStaysLegal := by
  refine ⟨exec_keeps (P := fun s => s.schedule.Inv) (fun _ h => h) fun _ _ _ => Effect.keeps_schedule_inv,
    exec_keeps (fun u h => ?_) fun c s u h e => ?_⟩
  · rw [unconfiguredEmpty_iff] at h ⊢
    exact fun mode => (h mode).congr rfl
  · rw [unconfiguredEmpty_iff] at h ⊢
    intro mode
    obtain before | vacant := e.mode_or_vacant mode
    · exact e.keeps_vacant (h before) before
    · exact vacant

end Sys2Proof.Machine
end

section
/-! The commands on the queue and at reset (O2, O5, O6). -/

namespace Sys2Proof.Machine

/-- No effect changes the queue of commands. -/
theorem Effect.pending {c : Instr} {s u : State} (e : Effect c s u) : u.pending = s.pending := by
  obtain q | rfl | rfl | ⟨-, rfl⟩ | ⟨addr, w, -, -, -, rfl⟩ := e.quiet_or
  · exact q.pending
  · obtain ⟨_, _, _, h⟩ := s.takeTick_touches
    rw [h]
  · obtain ⟨_, _, _, _, _, _, _, _, h⟩ := s.tickMicrosecond_touches
    rw [h]
  · rfl
  · obtain ⟨_, _, _, _, _, _, _, _, _, h⟩ := (s.carried addr w).judgeRecord_touches w
    rw [h]
    rfl

/-- Settles O2: every command has an effect, and no effect changes the queue. -/
theorem everyCommandAnswersAndLeavesTheQueue : Obligations.EveryCommandAnswersAndLeavesTheQueue := by
  intro c s
  obtain ⟨u, e, h⟩ := exec_has_effect c s
  exact ⟨_, h, e.pending⟩

/-- Settles O5: the reset values are read off block by block, the tables cell by cell. -/
theorem resetValues : Obligations.ResetValues := by
  have cells : ∀ i : Fin 256, State.reset.map.cells[i] = 0 ∧ State.reset.map.snapshot[i] = 0 := fun i =>
    ⟨by simp [State.reset, OccupancyMap.reset], by simp [State.reset, OccupancyMap.reset]⟩
  have slots : ∀ i : Fin 8, State.reset.schedule.slots[i] = none := fun i => by simp [State.reset, Schedule.reset]
  have rates : ∀ c : Fin 16, State.reset.policy.rates.d20[c] = 0 ∧ State.reset.policy.rates.d40[c] = 0 := fun c =>
    ⟨by simp [State.reset, Policy.reset], by simp [State.reset, Policy.reset]⟩
  have counters : ∀ c : Counter, State.reset.counter c = 0 := counter_of_reset rfl
  refine ⟨rfl, rfl, rfl, rfl, rfl, rfl, rfl, rfl, rfl, rfl, rfl, rfl, rfl, rfl, rfl, rfl, rfl, rfl, cells, rfl, rfl, rfl, rfl,
    rfl, slots, rfl, rfl, rfl, rfl, rfl, rates, rfl, rfl, rfl, rfl, rfl, rfl, rfl, rfl, rfl, rfl, rfl, rfl, rfl, rfl, rfl, rfl,
    counters, rfl, rfl, rfl, rfl, rfl⟩

/-! ### A pin reset -/

/-- The lines while RESET is asserted: nothing is flagged, and WIN is low. -/
theorem assertReset_driveLines (s : State) : s.assertReset.driveLines = s.assertReset := by
  simp [State.driveLines, State.winLevel, attnCondition, State.assertReset, State.reset, Report.reset]

/-- The words that a write in service has left go to memory at a pin reset. -/
theorem assertReset_mPort (s : State) :
    s.assertReset.bus.mPort = s.bus.mPort.map fun f => { f with words := f.words ++ s.unsent } := rfl

/-- The words that a read in service has left go upstream at a pin reset. -/
theorem assertReset_uPort (s : State) : s.assertReset.bus.uPort = s.bus.uPort ++ s.undelivered := rfl

theorem map_append_nil (m : Option Forwarded) : m.map (fun f => { f with words := f.words ++ [] }) = m := by
  cases m <;> simp

/-- A write in service leaves its words to memory and none upstream. -/
theorem assertReset_of_write {s : State} {left : List WriteWord} (unsent : s.unsent = left) (none' : s.undelivered = []) :
    s.assertReset.bus.uPort = s.bus.uPort ∧
      ∀ f, s.bus.mPort = some f → s.assertReset.bus.mPort = some { f with words := f.words ++ left } := by
  refine ⟨by rw [assertReset_uPort, none', List.append_nil], fun f hf => ?_⟩
  rw [assertReset_mPort, hf, unsent]
  rfl

/-- Settles O6: PIN_RESET by the kind of the transfer in service. -/
theorem pinResetReturnsEveryBlock : Obligations.PinResetReturnsEveryBlock := by
  intro s
  refine ⟨s.assertReset, congrArg Host.Outcome.next (assertReset_driveLines s), rfl, rfl, fun idle => ?_, fun noCompletions noRecords => ?_, fun left write => ?_,
    fun rest report => ?_, fun a b descriptors => ⟨fun v held => ?_, fun free => ?_⟩⟩
  · simp [assertReset_uPort, State.undelivered, idle]
  · have unsent : s.unsent = [] := by
      unfold State.unsent
      split
      · exact absurd ‹_› (noCompletions _)
      · exact absurd ‹_› (noRecords _ _)
      · rfl
    rw [assertReset_mPort, unsent, map_append_nil]
  · obtain ⟨rest, service, rfl⟩ | ⟨arrival, rest, service, rfl⟩ := write
    · exact assertReset_of_write (by simp [State.unsent, service]) (by simp [State.undelivered, service])
    · exact assertReset_of_write (by simp [State.unsent, service]) (by simp [State.undelivered, service])
  · simp [assertReset_uPort, State.undelivered, report]
  · simp [assertReset_uPort, State.undelivered, descriptors, held]
  · simp [assertReset_uPort, State.undelivered, descriptors, free]

end Sys2Proof.Machine
end

section
/-! What a command leaves alone, in the words of the statements, and the control records: WINDOWS, those that are not acted on,
ACKNOWLEDGE, CLEAR and RESTART (O46, O51, O52). -/

namespace Sys2Proof.Machine

/-! ### Frames -/

theorem OnlyIn.driveLines {changed : List Block} {s t : State} (h : OnlyIn changed s t) (report : .report ∈ changed) :
    OnlyIn changed s t.driveLines := by
  refine ⟨h.1, fun b hb => ?_⟩
  have kept := h.2 b hb
  cases b with
  | report => exact absurd report hb
  | _ => exact kept

/-- A command that changes only the ports and the transfer in service. -/
theorem changesBus {c : Instr} {s : State} {bus' : Classifier} (h : exec c s = .next ({ s with bus := bus' } : State).driveLines) :
    ∃ t, exec c s = .next t ∧ t.bus = bus' ∧ OnlyIn [.bus, .report] s t ∧ Reported [] [] s t := by
  refine ⟨_, h, rfl, OnlyIn.driveLines (by simp [onlyIn_iff]) (by simp), ((Reported.refl s).congr rfl rfl).driveLines⟩

/-- A command that changes nothing but the lines. -/
theorem changesNothing {c : Instr} {s : State} (h : exec c s = .next s.driveLines) :
    ∃ t, exec c s = .next t ∧ OnlyIn [.report] s t ∧ Reported [] [] s t :=
  ⟨_, h, OnlyIn.driveLines ⟨rfl, fun b _ => by cases b <;> rfl⟩ (by simp), (Reported.refl s).driveLines⟩

/-! ### The frames as the statements write them -/

/-- A control record that has been carried to memory, with whatever the Policy Unit then did. -/
theorem carriedRecord_of_bus {s u : State} {addr : Addr} {w : Words8} (takes : TakesRecord s addr) (windows : Option Windows)
    (bus : u.bus = { (s.carried addr w).bus with windows := windows }) : CarriedRecord addr w s u.driveLines := by
  have idle : s.bus.service = none := takes.2.1
  have driven : u.driveLines.bus = { (s.carried addr w).bus with windows := windows } := bus
  unfold CarriedRecord
  rw [driven]
  exact ⟨rfl, rfl, idle, rfl, rfl⟩

/-- A command that writes a record with a sum of 0 does what the judgement of the record does. -/
theorem exec_of_judged {s : State} {addr : Addr} {w : Words8} {c : Instr} (takes : TakesRecord s addr)
    (writes : WritesRecord c addr w) (sum : w.sum = 0#32) :
    exec c s = .next ((s.carried addr w).judgeRecord w).driveLines := by
  rw [exec_of_writesRecord writes, takeTransfer_record takes writes.1, checkRecord_of_sum sum]

/-- A record row that a name of the table gives. -/
theorem writesRecord_of_presented {c : Instr} {addr : Addr} {w : Words8} (marked : w.w0 = Config.marker)
    (h : presented c = some (.write .cpu addr w.toWrite)) : WritesRecord c addr w :=
  (writesRecord_iff c addr w).2 ⟨marked, h⟩

/-- A refusal does what the statements call a refusal. -/
theorem refusedWith_refuse (s : State) (addr : Addr) (w : Words8) (reason : RejectReason) :
    RefusedWith reason w.sequence s (((s.carried addr w).refuse w reason).driveLines) := by
  refine ⟨rfl, rfl, Reported.driveLines ?_, OnlyIn.driveLines (by simp [onlyIn_iff, State.refuse, State.carried]) (by simp)⟩
  · exact ((((Reported.refl s).congr rfl rfl).setFlag (t := s.carried addr w) .policyRejected).congr rfl rfl).count
      (t := { (s.carried addr w).setFlag .policyRejected with
        policy.lastRejectedSequence := w.sequence, policy.lastRejectedReason := reason }) (by simp)

/-- The set and the mode after a configuration record is accepted without a clamp. -/
theorem acceptConfiguration_policy (s : State) (w : Words8) (kind : Nat) (h : w.kindCode = BitVec.ofNat 8 kind) :
    (s.acceptConfiguration w kind false).policy = s.policy.afterKind kind w.sequence := by
  simp [State.acceptConfiguration, State.countClamp, State.receive, State.accept, Policy.afterKind, h]

/-- Settles O46: the first check that fails gives the reason; a record with none replaces the windows. -/
theorem windowsRecord : Obligations.WindowsRecord := by
  intro s addr body w takes sum hw
  have carried : (recordFrame 1#8 body).windowsCarried = w := hw.symm
  have done := exec_of_judged (c := .windows addr body) takes (writesRecord_of_presented rfl rfl) sum
  have judged : ∀ u : State, u.judgeRecord (recordFrame 1#8 body) = u.judgeWindows (recordFrame 1#8 body) := fun u => by
    simp [State.judgeRecord]
  rw [judged] at done
  have sequence := sequence_recordFrame 1#8 body
  refine ⟨_, done, ?_, ?_⟩
  · unfold State.judgeWindows
    split
    · exact carriedRecord_of_bus takes _ rfl
    · exact carriedRecord_of_bus takes _ rfl
  intro aligned full counted inRange apart hal hfu hco hra hap
  obtain rfl : aligned = (w.aligned = true) := propext (hal.trans w.aligned_iff.symm)
  obtain rfl : full = (w.noneEmpty = true) := propext (hfu.trans w.noneEmpty_iff.symm)
  obtain rfl : counted = (w.countsOk = true) := propext (hco.trans w.countsOk_iff.symm)
  obtain rfl : inRange = (w.inRange = true) := propext (hra.trans w.inRange_iff.symm)
  have refused : ∀ r, w.fault = some r →
      RefusedWith r body.sequence s ((s.carried addr (recordFrame 1#8 body)).judgeWindows (recordFrame 1#8 body)).driveLines := by
    intro r h
    have := refusedWith_refuse s addr (recordFrame 1#8 body) r
    rw [sequence] at this
    simpa only [State.judgeWindows, carried, h] using this
  refine ⟨fun h => refused _ ?_, fun h1 h => refused _ ?_, fun h1 h2 h => refused _ ?_, fun h1 h2 h3 h => refused _ ?_,
    fun h1 h2 h3 h4 h => refused _ ?_, fun h1 h2 h3 h4 h5 => ?_⟩
  · simp [Windows.fault, h]
  · simp [Windows.fault, h1, h]
  · simp [Windows.fault, h1, h2, h]
  · simp [Windows.fault, h1, h2, h3, h]
  · rw [hap, ← w.apart_iff h2 h4] at h
    simp [Windows.fault, h1, h2, h3, h4, h]
  · rw [hap, ← w.apart_iff h2 h4] at h5
    have ok : w.fault = none := by simp [Windows.fault, h1, h2, h3, h4, h5]
    have policy := acceptConfiguration_policy (s.carried addr (recordFrame 1#8 body)) (recordFrame 1#8 body) 1 (by simp)
    rw [sequence] at policy
    have reported : Reported [.policyAccepted] [] s
        ((s.carried addr (recordFrame 1#8 body)).acceptConfiguration (recordFrame 1#8 body) 1 false) :=
      (((Reported.refl s).congr rfl rfl).setFlag (t := s.carried addr (recordFrame 1#8 body)) .policyAccepted).congr rfl rfl
    simp only [State.judgeWindows, carried, ok]
    refine ⟨rfl, rfl, policy, OnlyIn.driveLines (by simp [onlyIn_iff, State.emptyPending, State.acceptConfiguration, State.countClamp, State.receive, State.accept, State.carried]) (by simp), (reported.congr rfl rfl).driveLines⟩

/-! ### Records that are not acted on -/

/-- A kind code that names no record is refused. -/
theorem judgeRecord_of_unknown {w : Words8} (h : w.kindCode.toNat = 0 ∨ 13 ≤ w.kindCode.toNat) (s : State) :
    s.judgeRecord w = s.refuse w .unknownKind := by
  unfold State.judgeRecord
  split
  case h_13 => rfl
  all_goals omega

/-- A CPU write with no word in the TX ring abandons nothing. -/
theorem State.abandonments_of_outside {s : State} {addr : Addr} {n : Nat}
    (outside : ∀ w i, s.bus.windows = some w → i < n → w.tx.holds 32 (addr.toNat + 4 * i) = false) :
    s.abandonments addr n = s := by
  unfold State.abandonments
  split
  next w hw _ =>
    have none' : abandonedIndices w addr n = [] := by
      have : ((List.range n).filterMap fun i =>
          if w.tx.wordIndex descriptorSize (wordAddress addr i) ≤ 4 then
            w.tx.element descriptorSize (wordAddress addr i)
          else none) = [] := by
        rw [List.filterMap_eq_nil_iff]
        intro i hi
        have : w.tx.holds 32 (addr.toNat + 4 * i) = false := outside w i hw (List.mem_range.1 hi)
        simp [Window.element, wordAddress, descriptorSize, this]
      rw [abandonedIndices, this]
      rfl
    rw [none']
    rfl
  · rfl

/-- A CPU write that is no control record goes to memory, and abandons what it touches when transfers are observed. -/
theorem takeTransfer_cpuWrite {s : State} {addr : Addr} {words : List WriteWord} (idle : s.bus.service = none)
    (record : isControlRecord s.bus.windows addr words = false) : s.takeTransfer (.write .cpu addr words) =
      if s.bus.observing = true then (s.forward (forwardedWrite .cpu addr words)).abandonments addr words.length
      else s.forward (forwardedWrite .cpu addr words) := by
  by_cases observing : s.bus.observing = true
  · simp [State.takeTransfer, idle, observing, State.takeWrite, State.takeCpuWrite, record]
  · simp [State.takeTransfer, idle, observing, State.passThrough]

/-- What makes a CPU write an ordinary one. -/
theorem isControlRecord_eq_false {windows : Option Windows} {addr : Addr} {words : List WriteWord}
    (h : words.length ≠ 8 ∨ addr.toNat % 32 ≠ 0 ∨ (∃ a ∈ words, a.enables ≠ 0xF#4) ∨
      (∃ w i, windows = some w ∧ i < words.length ∧ w.inside (addr.toNat + 4 * i) = true) ∨
      words.head?.map WriteWord.data ≠ some 0x6A3C31E5#32) : isControlRecord windows addr words = false := by
  by_contra record
  rw [Bool.not_eq_false, isControlRecord_iff] at record
  obtain ⟨⟨w, marked, rfl⟩, aligned, outside⟩ := record
  obtain length | unaligned | ⟨a, ha, disabled⟩ | ⟨v, i, hv, hi, inside⟩ | unmarked := h
  · exact length rfl
  · exact unaligned aligned
  · obtain ⟨d, -, rfl⟩ := List.mem_map.1 ha
    exact disabled rfl
  · exact absurd (outside i hi v hv) (by simp [inside])
  · exact unmarked (congrArg some marked)

/-- Settles O51: the frames by definition, an unknown kind refused, a wrong sum counted, and a CPU write that is no record. -/
theorem recordsThatAreNotActedOn : Obligations.RecordsThatAreNotActedOn := by
  refine ⟨fun _ _ _ _ => ⟨rfl, rfl, rfl⟩, fun _ => rfl, fun s addr kind body takes unknown sum => ?_,
    fun s addr w c takes writes sum => ?_, fun s addr words idle outside ordinary => ?_⟩
  · have done := exec_of_judged (c := .unknownKind addr kind body) takes (writesRecord_of_presented rfl rfl) sum
    rw [judgeRecord_of_unknown (by rwa [kindCode_recordFrame])] at done
    have refused := refusedWith_refuse s addr (recordFrame kind body) .unknownKind
    rw [sequence_recordFrame] at refused
    exact ⟨_, done, carriedRecord_of_bus takes _ rfl, refused⟩
  · have done : exec c s = .next ((s.carried addr w).count .checksumFail).driveLines := by
      rw [exec_of_writesRecord writes, takeTransfer_record takes writes.1, checkRecord_of_sum_ne sum]
    refine ⟨_, done, carriedRecord_of_bus takes _ rfl, rfl, OnlyIn.driveLines (by simp [onlyIn_iff, State.carried]) (by simp),
      Reported.driveLines (((Reported.refl s).congr rfl rfl).count (t := s.carried addr w) (by simp))⟩
  · have taken : s.takeTransfer (.write .cpu addr words) = s.forward (forwardedWrite .cpu addr words) := by
      rw [takeTransfer_cpuWrite idle (isControlRecord_eq_false ordinary)]
      split
      · exact State.abandonments_of_outside outside
      · rfl
    exact changesBus (congrArg (fun u : State => Host.Outcome.next u.driveLines) taken)

/-! ### ACKNOWLEDGE, CLEAR and RESTART -/

/-- An acceptance of a record besides its own effects. -/
theorem reported_accept (s : State) (addr : Addr) (w : Words8) :
    Reported [.policyAccepted] [] s ((s.carried addr w).accept w) :=
  (((Reported.refl s).congr rfl rfl).setFlag (t := s.carried addr w) .policyAccepted).congr rfl rfl

/-- Every counter after a CLEAR record (R160). -/
theorem judgeClear_counter (s : State) (w : Words8) (k : Counter) :
    (s.judgeClear w).counter k = if flagBit w.w2 2 = true then 0 else s.counter k := by
  rw [State.judgeClear_eq]
  by_cases bit : flagBit w.w2 2 = true
  · simp [State.counter, bit]
  · simp [State.counter, bit]

theorem acknowledge_effect {s : State} {addr : Addr} {body : RecordBody} (takes : TakesRecord s addr)
    (sum : (recordFrame 10#8 body).sum = 0#32) :
    ∃ t, exec (.acknowledge addr body) s = .next t ∧ CarriedRecord addr (recordFrame 10#8 body) s t ∧
      t.bus.windows = s.bus.windows ∧ OnlyIn [.policy, .report, .bus] s t ∧
      t.policy = { s.policy with lastAcceptedKind := 10#8, lastAcceptedSequence := body.sequence } ∧
      t.report.flags = (s.report.flags ||| 1#16) &&& ~~~(body.w2.extractLsb' 0 16) ∧
      t.report.enables = body.w2.extractLsb' 16 16 ∧ t.report.win = s.report.win ∧
      ∀ k : Counter, t.counter k = s.counter k := by
  have done := exec_of_judged (c := .acknowledge addr body) takes (writesRecord_of_presented rfl rfl) sum
  rw [judgeRecord_of_acknowledge (kindCode_recordFrame ..)] at done
  refine ⟨_, done, carriedRecord_of_bus takes s.bus.windows rfl, rfl, OnlyIn.driveLines (by simp [onlyIn_iff, State.judgeAcknowledge, State.accept, State.carried]) (by simp), ?_,
    rfl, rfl, rfl, fun _ => rfl⟩
  · show ({ s.policy with lastAcceptedKind := (recordFrame 10#8 body).kindCode
                          lastAcceptedSequence := (recordFrame 10#8 body).sequence } : Policy) = _
    rw [kindCode_recordFrame, sequence_recordFrame]

/-- A row of the table that clears, with the bit it sets. -/
theorem clear_effect {s : State} {addr : Addr} {w : Words8} {c : Instr} (takes : TakesRecord s addr)
    (writes : WritesRecord c addr w) (kind : w.kindCode = 11#8) (sum : w.sum = 0#32) :
    ∃ t, exec c s = .next t ∧ CarriedRecord addr w s t ∧ t.bus.windows = s.bus.windows ∧
      OnlyIn [.intake, .map, .schedule, .policy, .report, .bus] s t ∧
      t.policy = { s.policy with lastAcceptedKind := 11#8, lastAcceptedSequence := w.sequence } ∧
      t.intake = { s.intake with fifo := s.intake.fifo.map fun e => { e with
        voidMap := e.voidMap || w.w2.getLsbD 0, voidNeighbour := e.voidNeighbour || w.w2.getLsbD 1 } } ∧
      t.map = { s.map with requests := s.map.requests ++ if w.w2.getLsbD 0 then [.clear] else [] } ∧
      t.schedule = { s.schedule with requests := s.schedule.requests ++ if w.w2.getLsbD 1 then [.clear] else [] } ∧
      t.report.flags = s.report.flags ||| 1#16 ∧ t.report.enables = s.report.enables ∧ t.report.win = s.report.win ∧
      ∀ k : Counter, t.counter k = if w.w2.getLsbD 2 then 0 else s.counter k := by
  have done := exec_of_judged takes writes sum
  rw [judgeRecord_of_clear kind] at done
  have counters := judgeClear_counter (s.carried addr w) w
  rw [State.judgeClear_eq] at done counters
  refine ⟨_, done, carriedRecord_of_bus takes s.bus.windows rfl, rfl, OnlyIn.driveLines (by simp [onlyIn_iff, State.accept, State.carried]) (by simp), ?_,
    rfl, rfl, rfl, rfl, rfl, rfl, counters⟩
  · show ({ s.policy with lastAcceptedKind := w.kindCode, lastAcceptedSequence := w.sequence } : Policy) = _
    rw [kind]

/-- A CLEAR record with no bit set only accepts. -/
theorem clearNothing_effect {s : State} {addr : Addr} {w : Words8} {c : Instr} (takes : TakesRecord s addr)
    (writes : WritesRecord c addr w) (kind : w.kindCode = 11#8) (bits : w.w2.extractLsb' 0 3 = 0#3) (sum : w.sum = 0#32) :
    ∃ t, exec c s = .next t ∧ CarriedRecord addr w s t ∧ t.bus.windows = s.bus.windows ∧
      OnlyIn [.policy, .report, .bus] s t ∧ Reported [.policyAccepted] [] s t ∧
      t.policy = { s.policy with lastAcceptedKind := 11#8, lastAcceptedSequence := w.sequence } := by
  have bit : ∀ n, n < 3 → flagBit w.w2 n = false := fun n hn => by
    have := congrArg (fun v => v.getLsbD n) bits
    simpa [hn, flagBit] using this
  have done := exec_of_judged takes writes sum
  rw [judgeRecord_of_clear kind, State.judgeClear, State.applyIf, State.applyIf, State.applyIf, bit 0 (by omega),
    bit 1 (by omega), bit 2 (by omega)] at done
  refine ⟨_, done, carriedRecord_of_bus takes s.bus.windows rfl, rfl, OnlyIn.driveLines (by simp [onlyIn_iff, State.accept, State.carried]) (by simp),
    (reported_accept s addr w).driveLines, ?_⟩
  · show ({ s.policy with lastAcceptedKind := w.kindCode, lastAcceptedSequence := w.sequence } : Policy) = _
    rw [kind]

/-- RESTART: the lines are released, for no enable is set and the mode is UNCONFIGURED. -/
theorem judgeRestart_driveLines (s : State) (w : Words8) :
    (s.judgeRestart w).driveLines = s.judgeRestart w := by
  simp [State.driveLines, State.winLevel, State.winActive, attnCondition, State.judgeRestart, State.restarted, State.accept,
    State.setFlag, Report.reset, WinFields.reset]

/-- The whole state after RESTART (R160). -/
theorem judgeRestart_eq (s : State) (w : Words8) : s.judgeRestart w = { State.reset with
    air := s.air
    tracker := { State.reset.tracker with mainsHigh := s.tracker.mainsHigh, lastTransition := s.tracker.lastTransition }
    policy := { State.reset.policy with lastAcceptedKind := w.kindCode, lastAcceptedSequence := w.sequence }
    report := { State.reset.report with flags := 1#16 }
    bus := { s.bus with windows := none }
    pending := s.pending } := by
  have flags : withFlag 0#16 .policyAccepted = 1#16 := by decide
  simp [State.judgeRestart, State.restarted, State.accept, State.setFlag, State.reset, Report.reset, flags]

/-- Settles O52: each record by its own effect; every way to write a record does what the CPU write does. -/
theorem acknowledgeClearAndRestart : Obligations.AcknowledgeClearAndRestart := by
  refine ⟨fun s addr body takes sum => acknowledge_effect takes sum, fun s addr body c bit w2 takes row sum hw2 => ?_,
    fun s addr w c writes => exec_of_writesRecord writes s,
    fun s addr w c takes marked row kind bits sum => ?_, fun s addr body takes sum => ?_⟩
  · subst hw2
    have writes : WritesRecord c addr (clearFrame bit body) := by
      obtain ⟨rfl, rfl⟩ | ⟨rfl, rfl⟩ | ⟨rfl, rfl⟩ := row <;> exact writesRecord_of_presented rfl rfl
    have cleared := clear_effect takes writes (kindCode_clearFrame bit body) sum
    rwa [sequence_clearFrame] at cleared
  · exact clearNothing_effect takes ⟨marked, row.imp id .inl⟩ kind bits sum
  · have done := exec_of_judged (c := .restart addr body) takes (writesRecord_of_presented rfl rfl) sum
    rw [judgeRecord_of_restart (kindCode_recordFrame ..)] at done
    refine ⟨_, done, carriedRecord_of_bus takes none rfl, ?_⟩
    have state := judgeRestart_eq (s.carried addr (recordFrame 12#8 body)) (recordFrame 12#8 body)
    rw [kindCode_recordFrame, sequence_recordFrame] at state
    rw [judgeRestart_driveLines]
    exact state

end Sys2Proof.Machine
end

section
/-! Transfers of which the part takes no notice, and the report reads (O12, O13): the runs of a TX-DMA read and the marks of a write. -/

namespace Sys2Proof.Machine

/-! ### The runs of a TX-DMA read -/

theorem Window.element_of_outside {w : Window} {size a : Nat} (h : w.holds size a = false) : w.element size a = none := by
  simp [Window.element, h]

/-- The first run has the mark of the first word. -/
theorem groupRuns_head {l : List (Option Nat × Word)} {m : Option Nat} {ys : List Word} {more : List (Option Nat × List Word)}
    (h : groupRuns l = (m, ys) :: more) : ∃ x rest, l = (m, x) :: rest := by
  cases l with
  | nil => cases h
  | cons p rest =>
    obtain ⟨mark, x⟩ := p
    simp only [groupRuns] at h
    split at h
    · cases h; exact ⟨x, rest, rfl⟩
    · split at h
      · cases h; exact ⟨x, rest, by simp [*]⟩
      · cases h; exact ⟨x, rest, rfl⟩

/-- Words with one mark, before a word with another mark or the end, are a run. -/
theorem groupRuns_run {m : Option Nat} {xs : List Word} (nonempty : xs ≠ []) {rest : List (Option Nat × Word)}
    (other : ∀ y, rest.head? = some y → y.1 ≠ m) :
    groupRuns (xs.map (fun x => (m, x)) ++ rest) = (m, xs) :: groupRuns rest := by
  induction xs with
  | nil => exact absurd rfl nonempty
  | cons x xs ih =>
    by_cases more : xs = []
    · subst more
      simp only [List.map_cons, List.map_nil, List.cons_append, List.nil_append, groupRuns]
      split
      next none' => rw [none']
      next m' ys runs some' =>
        obtain ⟨y, tail, rfl⟩ := groupRuns_head some'
        have : m ≠ m' := fun e => other (m', y) rfl e.symm
        rw [if_neg this, some']
    · simp [groupRuns, ih more]

/-- Words that all have one mark. -/
theorem zip_marks {mark : Type} {m : mark} {α : Type} {ws : List α} {f : Nat → mark} (h : ∀ i, i < ws.length → f i = m) :
    ((List.range ws.length).map f).zip ws = ws.map fun x => (m, x) := by
  refine List.ext_getElem (by simp) fun i h1 h2 => ?_
  simp only [List.length_map] at h2
  simp [h i h2]

/-- A TX-DMA read with no word in the TX ring. -/
theorem segmentsOf_outside {w : Windows} {addr : Addr} {ws : List Word}
    (outside : ∀ i, i < ws.length → w.tx.holds 32 (addr.toNat + 4 * i) = false) :
    segmentsOf w addr ws = if ws = [] then [] else [.outside ws] := by
  have marks := zip_marks (ws := ws) (f := fun i => w.tx.element descriptorSize (wordAddress addr i)) (m := none) fun i hi =>
    Window.element_of_outside (outside i hi)
  simp only [segmentsOf, marks]
  split
  next empty => rw [empty]; rfl
  next nonempty =>
    have run := groupRuns_run (m := none) nonempty (rest := []) (by simp)
    rw [List.append_nil] at run
    rw [run]
    rfl

/-! ### Reads that pass through -/

/-- A transfer that is taken: the bus is free and transfers are observed. -/
theorem takeTransfer_read {s : State} {tag : Tag} {addr : Addr} {ws : List Word} (idle : s.bus.service = none)
    (observing : s.bus.observing = true) : s.takeTransfer (.read tag addr ws) = s.takeRead tag addr ws := by
  simp [State.takeTransfer, idle, observing]

theorem takeTransfer_write {s : State} {tag : Tag} {addr : Addr} {words : List WriteWord} (idle : s.bus.service = none)
    (observing : s.bus.observing = true) : s.takeTransfer (.write tag addr words) = s.takeWrite tag addr words := by
  simp [State.takeTransfer, idle, observing]

theorem takeTransfer_unobserved {s : State} {x : Transfer} (idle : s.bus.service = none)
    (unobserved : s.bus.observing = false) : s.takeTransfer x = s.passThrough x := by
  simp [State.takeTransfer, idle, unobserved]

theorem takeTransfer_busy {s : State} {x : Transfer} (busy : s.bus.service ≠ none) : s.takeTransfer x = s := by
  simp [State.takeTransfer, Option.isSome_iff_ne_none, busy]

/-- A read delivered as memory returns it. -/
def State.passRead (s : State) (tag : Tag) (addr : Addr) (ws : List Word) : State :=
  (s.forward (forwardedRead tag addr ws.length)).deliver ws

theorem State.takeTxRead_outside {s : State} {addr : Addr} {ws : List Word} (idle : s.bus.service = none)
    (free : s.admission.inProgress = none)
    (outside : ∀ w i, s.bus.windows = some w → i < ws.length → w.tx.holds 32 (addr.toNat + 4 * i) = false) :
    s.takeTxRead addr ws = s.passRead .txDma addr ws := by
  simp only [State.takeTxRead]
  split
  · rfl
  next w hw =>
    rw [segmentsOf_outside fun i hi => outside w i hw hi]
    split
    next empty =>
      subst empty
      simp [splitOutside, State.continueRead, State.passOnAll, State.keepReading, State.forward, free, State.passRead,
        State.deliver, idle]
    next nonempty =>
      simp [splitOutside, State.continueRead, State.passOnAll, State.passOn, State.keepReading, State.forward, free,
        State.passRead, State.deliver, idle]

theorem State.takeCpuRead_outside {s : State} {addr : Addr} {ws : List Word}
    (outside : ∀ w i, s.bus.windows = some w → i < ws.length → w.inReport (addr.toNat + 4 * i) = false) :
    s.takeCpuRead addr ws = s.passRead .cpu addr ws := by
  simp only [State.takeCpuRead]
  split
  · rfl
  next w hw =>
    have none' : (addressed addr ws).any (fun p => w.inReport p.1) = false := by
      rw [List.any_eq_false]
      rintro ⟨a, x⟩ h
      obtain ⟨ha, -⟩ := List.of_mem_zip h
      obtain ⟨i, hi, rfl⟩ := List.mem_map.1 ha
      simpa [wordAddress] using outside w i hw (List.mem_range.1 hi)
    rw [none']
    rfl

/-! ### Writes that pass through -/

/-- A word is a completion candidate of descriptor `e` when it lies in it as its word 4, byte 0 enabled and done set (R10). -/
theorem candidateAt_eq_some_iff {w : Windows} {a e : Nat} {d : WriteWord} : candidateAt w a d = some e ↔
    w.tx.holds 32 a = true ∧ (a - w.tx.base) / 32 = e ∧ (a - w.tx.base) % 32 / 4 = 4 ∧ d.enables.getLsbD 0 = true ∧
      d.data.getLsbD 1 = true := by
  unfold candidateAt Window.element
  by_cases holds : w.tx.holds 32 a = true
  · simp [descriptorSize, holds, Window.wordIndex, isCandidate, isDone, flagBit]
    tauto
  · simp [descriptorSize, holds]

/-- A TX-DMA write with no completion word ends at once (R10). -/
theorem State.takeTxWrite_plain {s : State} {addr : Addr} {words : List WriteWord} (idle : s.bus.service = none)
    (plain : s.policy.mode = .unconfigured ∨ (∀ w i a, s.bus.windows = some w → words[i]? = some a →
      w.tx.holds 32 (addr.toNat + 4 * i) = true → (addr.toNat + 4 * i - w.tx.base) % 32 / 4 = 4 →
      a.enables.getLsbD 0 = false ∨ a.data.getLsbD 1 = false)) :
    s.takeTxWrite addr words = s.forward (forwardedWrite .txDma addr words) := by
  unfold State.takeTxWrite
  split
  next w hw observed =>
    have marks : markCandidates w addr words = words.map fun x => (none, x) := by
      refine List.ext_getElem (by simp [markCandidates]) fun i h1 h2 => ?_
      simp only [List.length_map] at h2
      have noCandidate : candidateAt w (wordAddress addr i) words[i] = none := by
        rw [Option.eq_none_iff_forall_ne_some]
        intro e he
        obtain ⟨holds, -, word4, enabled, done⟩ := candidateAt_eq_some_iff.1 he
        obtain unconfigured | plain := plain
        · simp [State.observesWrites, unconfigured] at observed
        · obtain h | h := plain w i words[i] hw (List.getElem?_eq_getElem h2) holds word4
          · exact absurd enabled (by rw [h]; decide)
          · exact absurd done (by rw [h]; decide)
      simpa [markCandidates] using noCandidate
    have sent := State.sendPlain_split (s.forward { forwardedWrite .txDma addr words with words := [] }) .completions words
      [] (by simp)
    rw [List.append_nil] at sent
    rw [marks, sent]
    simp [State.send, State.forward, forwardedWrite, idle]
  · rfl

/-- A transfer taken whole: it leaves the M-port as it arrived, a read delivers what memory returned, and nothing is left. -/
theorem passed_read {c : Instr} {s : State} {tag : Tag} {addr : Addr} {ws : List Word}
    (h : exec c s = .next (s.passRead tag addr ws).driveLines) :
    ∃ t, exec c s = .next t ∧ t.bus = { s.bus with
        mPort := some { write := false, tag := tag, addr := addr, length := ws.length, words := [] }, uPort := ws } ∧
      OnlyIn [.bus, .report] s t ∧ Reported [] [] s t :=
  changesBus (bus' := { s.bus with mPort := some (forwardedRead tag addr ws.length), uPort := ws }) h

theorem passed_write {c : Instr} {s : State} {tag : Tag} {addr : Addr} {words : List WriteWord}
    (h : exec c s = .next (s.forward (forwardedWrite tag addr words)).driveLines) :
    ∃ t, exec c s = .next t ∧ t.bus = { s.bus with
        mPort := some { write := true, tag := tag, addr := addr, length := words.length, words := words }, uPort := [] } ∧
      OnlyIn [.bus, .report] s t ∧ Reported [] [] s t :=
  changesBus (bus' := { s.bus with mPort := some (forwardedWrite tag addr words), uPort := [] }) h

/-- The commands that go on with a transfer do nothing while none is in service. -/
theorem exec_next_idle {s : State} {addr : Addr} {c : Instr} (idle : s.bus.service = none)
    (h : c ∈ [.descriptorRead .next, .reportRead .next, .completionCandidate addr .next, .receiveRecordIntake addr .next]) :
    exec c s = .next s.driveLines := by
  simp only [List.mem_cons, List.not_mem_nil, or_false] at h
  obtain rfl | rfl | rfl | rfl := h
  · simp [exec, execDescriptorRead, answer, State.nextDescriptor, idle]
  · simp [exec, execReportRead, answer, State.nextReportWord, idle]
  · simp [exec, execCompletionCandidate, answer, State.nextCompletion, idle]
  · simp [exec, execReceiveRecordIntake, answer, State.nextRecord, idle]

/-- A read of which the part takes no notice passes through, by its tag. -/
theorem takeTransfer_passRead {s : State} {tag : Tag} {addr : Addr} {ws : List Word} (idle : s.bus.service = none)
    (free : s.admission.inProgress = none) (h : s.bus.observing = false ∨ tag = .other ∨ tag = .rxDma ∨
      (tag = .cpu ∧ ∀ w i, s.bus.windows = some w → i < ws.length → w.inReport (addr.toNat + 4 * i) = false) ∨
      (tag = .txDma ∧ ∀ w i, s.bus.windows = some w → i < ws.length → w.tx.holds 32 (addr.toNat + 4 * i) = false)) :
    s.takeTransfer (.read tag addr ws) = s.passRead tag addr ws := by
  by_cases observing : s.bus.observing = true
  · rw [takeTransfer_read idle observing]
    obtain h | rfl | rfl | ⟨rfl, outside⟩ | ⟨rfl, outside⟩ := h
    · simp [h] at observing
    · rfl
    · rfl
    · exact State.takeCpuRead_outside outside
    · exact State.takeTxRead_outside idle free outside
  · exact takeTransfer_unobserved idle (by simpa using observing)

/-- Settles O12: what is taken with no notice passes through; what cannot be taken changes nothing. -/
theorem otherTransfersPassThrough : Obligations.OtherTransfersPassThrough := by
  refine ⟨fun s tag addr ws idle free h => ?_, fun s tag addr words idle h => ?_, fun s addr words idle plain => ?_,
    fun s x busy => ?_, fun s addr c idle h => changesNothing (exec_next_idle idle h)⟩
  · have taken := takeTransfer_passRead idle free h
    exact passed_read (congrArg (fun u : State => Host.Outcome.next u.driveLines) taken)
  · have taken : s.takeTransfer (.write tag addr words) = s.forward (forwardedWrite tag addr words) := by
      by_cases observing : s.bus.observing = true
      · obtain h | rfl := h
        · simp [h] at observing
        · exact takeTransfer_write idle observing
      · exact takeTransfer_unobserved idle (by simpa using observing)
    exact passed_write (congrArg (fun u : State => Host.Outcome.next u.driveLines) taken)
  · have taken : s.takeTransfer (.write .txDma addr words) = s.forward (forwardedWrite .txDma addr words) := by
      by_cases observing : s.bus.observing = true
      · exact (takeTransfer_write idle observing).trans (State.takeTxWrite_plain idle plain)
      · exact takeTransfer_unobserved idle (by simpa using observing)
    exact passed_write (congrArg (fun u : State => Host.Outcome.next u.driveLines) taken)
  · exact changesNothing (congrArg (fun u : State => Host.Outcome.next u.driveLines) (takeTransfer_busy busy))

/-! ### Report reads -/

/-- A CPU read with a word in the report area becomes the report read in service (R14). -/
theorem State.takeCpuRead_report {s : State} {addr : Addr} {ws : List Word} {w : Windows} {i : Nat}
    (hw : s.bus.windows = some w) (hi : i < ws.length) (inside : w.inReport (addr.toNat + 4 * i) = true) :
    s.takeCpuRead addr ws = { s.forward (forwardedRead .cpu addr ws.length) with
      bus.service := some (.report (addressed addr ws)) } := by
  have some' : (addressed addr ws).any (fun p => w.inReport p.1) = true := by
    rw [List.any_eq_true]
    refine ⟨(addr.toNat + 4 * i, ws[i]), ?_, inside⟩
    rw [List.mem_iff_getElem]
    exact ⟨i, by simpa [addressed] using hi, by simp [addressed, wordAddress]⟩
  simp only [State.takeCpuRead]
  split
  next none' => rw [none'] at hw; cases hw
  next v hv =>
    obtain rfl : w = v := Option.some.inj (hw.symm.trans hv)
    rw [if_pos some']

/-- The word delivered of a report read, with the windows held (R14). -/
theorem State.substituted_of_windows {s : State} {w : Windows} (hw : s.bus.windows = some w) (a : Nat) (d : Word) :
    s.substituted a d = if w.inReport a = true then s.reportWord ((a - w.report) / 4) else d := by
  simp [State.substituted, hw]

/-- A closing report read lets the snapshot request in service make its copy (R80). -/
theorem takeSnapshot_closed {s : State} {more : List MapRequest} (closed : s.bus.service = none)
    (request : s.map.requests = .snapshot :: more) : s.takeSnapshot = { s with
      map := { s.map with requests := more, snapshot := s.map.cells, sequence := (s.map.sequence + 1) % 256 } } := by
  simp [State.takeSnapshot, State.reportOpen, closed, request, State.popMap, State.serveSnapshot]

theorem takeSnapshot_other {s : State} (h : s.map.requests.head? ≠ some .snapshot) : s.takeSnapshot = s := by
  unfold State.takeSnapshot
  split
  next request _ => simp [request] at h
  · rfl

/-- The last word of a report read delivered, and the read closed (R15). -/
def State.closeRead (s : State) (word : Word) : State :=
  { s.deliver [word] with bus := { (s.deliver [word]).bus with service := none } }

/-- What delivering the last word of a report read does. -/
theorem nextReportWord_last {s : State} {a : Nat} {d : Word} (service : s.bus.service = some (.report [(a, d)])) :
    s.nextReportWord = (s.closeRead (s.substituted a d)).takeSnapshot := by
  simp [State.nextReportWord, service, State.closeRead]

/-- What delivering another word does. -/
theorem nextReportWord_more {s : State} {a : Nat} {d : Word} {rest : List (Nat × Word)} (more : rest ≠ [])
    (service : s.bus.service = some (.report ((a, d) :: rest))) : s.nextReportWord = { s with
      bus := { s.bus with uPort := s.bus.uPort ++ [s.substituted a d], service := some (.report rest) } } := by
  simp [State.nextReportWord, service, more, State.deliver]

/-- Settles O13: the taking, and each word with the closing of the read after the last. -/
theorem reportReadIsTakenAndDelivered : Obligations.ReportReadIsTakenAndDelivered := by
  refine ⟨fun s addr ws w i idle observing hw hi inside => ?_, fun s a d rest w service hw => ?_⟩
  · have taken := (takeTransfer_read (tag := .cpu) (ws := ws) (addr := addr) idle observing).trans
      (State.takeCpuRead_report hw hi inside)
    exact changesBus (congrArg (fun u : State => Host.Outcome.next u.driveLines) taken)
  · have word := State.substituted_of_windows hw a d
    rw [← word]
    by_cases last : rest = []
    · subst last
      have closes : exec (.reportRead .next) s = .next (s.closeRead (s.substituted a d)).takeSnapshot.driveLines :=
        congrArg (fun u : State => Host.Outcome.next u.driveLines) (nextReportWord_last service)
      by_cases snapshot : s.map.requests.head? = some .snapshot
      · obtain ⟨more, request⟩ : ∃ more, s.map.requests = .snapshot :: more := by
          cases h : s.map.requests with
          | nil => simp [h] at snapshot
          | cons q more => simp [h] at snapshot; exact ⟨more, by rw [snapshot]⟩
        rw [takeSnapshot_closed (s := s.closeRead (s.substituted a d)) rfl request] at closes
        refine ⟨_, closes, rfl, (((Reported.refl s).congr rfl rfl)).driveLines, fun h => ?_, fun more' _ h => ?_⟩
        · simp [snapshot] at h
        · obtain rfl : more = more' := by simpa [request] using h
          refine ⟨OnlyIn.driveLines (by simp [onlyIn_iff, State.closeRead, State.deliver]) (by simp), rfl⟩
      · rw [takeSnapshot_other (s := s.closeRead (s.substituted a d)) snapshot] at closes
        obtain ⟨t, done, bus, only, reported⟩ := changesBus closes
        refine ⟨t, done, bus, reported, fun _ => only, fun more _ h => ?_⟩
        simp [h] at snapshot
    · obtain ⟨t, done, bus, only, reported⟩ := changesBus (c := .reportRead .next)
        (congrArg (fun u : State => Host.Outcome.next u.driveLines) (nextReportWord_more last service))
      refine ⟨t, done, ?_, reported, fun _ => only, fun more h => absurd h last⟩
      rw [bus, if_neg last]

end Sys2Proof.Machine
end

section
/-! TX-DMA reads (O17, O18): a read is cut into the runs of one descriptor each, and the descriptors that return reach the Rewriter
one after the other. -/

namespace Sys2Proof.Machine

/-! ### The segments of a read -/

/-- Runs from word `pos` on: each is a run of words in one place, as long as can be, and the last ends at `total`. -/
def RunsAt (place : Nat → Option Nat) (total : Nat) : Nat → List (Option Nat × List Word) → Prop
  | pos, [] => pos = total
  | pos, run :: rest =>
    (1 ≤ run.2.length ∧ (∀ j, j < run.2.length → place (pos + j) = run.1) ∧
      (pos + run.2.length < total → place (pos + run.2.length) ≠ run.1)) ∧ RunsAt place total (pos + run.2.length) rest

/-- Grouping words by their places gives the runs. -/
theorem runsAt_groupRuns (place : Nat → Option Nat) (total : Nat) (l : List (Option Nat × Word)) (pos : Nat)
    (ends : pos + l.length = total) (marks : ∀ j (h : j < l.length), l[j].1 = place (pos + j)) :
    RunsAt place total pos (groupRuns l) := by
  induction l generalizing pos with
  | nil => exact ends
  | cons p rest ih =>
    obtain ⟨mark, x⟩ := p
    have first : place pos = mark := (marks 0 (by simp)).symm
    have tail : RunsAt place total (pos + 1) (groupRuns rest) := by
      refine ih (pos + 1) (by simp at ends; omega) fun j h => ?_
      have := marks (j + 1) (by simpa using h)
      rw [show pos + 1 + j = pos + (j + 1) by omega]
      simpa using this
    simp only [groupRuns]
    split
    next none' =>
      rw [none'] at tail
      have tail : pos + 1 = total := tail
      exact ⟨⟨le_rfl, fun j hj => by obtain rfl : j = 0 := by simpa using hj
                                     exact first, fun h => absurd h (by simp [tail])⟩, tail⟩
    next m xs more some' =>
      rw [some'] at tail
      obtain ⟨⟨long, same, other⟩, later⟩ := tail
      have length : pos + (xs.length + 1) = pos + 1 + xs.length := by omega
      split
      next merge =>
        subst merge
        refine ⟨⟨by simp, fun j hj => ?_, ?_⟩, ?_⟩
        · cases j with
          | zero => exact first
          | succ j => rw [show pos + (j + 1) = pos + 1 + j by omega]; exact same j (by simpa using hj)
        · simpa only [List.length_cons, length] using other
        · simpa only [List.length_cons, length] using later
      next new =>
        refine ⟨⟨le_rfl, fun j hj => by obtain rfl : j = 0 := by simpa using hj
                                        exact first, fun _ e => ?_⟩, ⟨long, same, other⟩, later⟩
        exact new (e.symm.trans (same 0 long))

/-- Grouping keeps the words. -/
theorem groupRuns_words (l : List (Option Nat × Word)) : (groupRuns l).flatMap Prod.snd = l.map Prod.snd := by
  induction l with
  | nil => rfl
  | cons p rest ih =>
    obtain ⟨mark, x⟩ := p
    simp only [groupRuns, List.map_cons, ← ih]
    split
    next none' => simp [none']
    next m xs more some' => split <;> simp [some']

@[simp] theorem segmentOf_words (run : Option Nat × List Word) : (segmentOf run).words = run.2 := by
  obtain ⟨mark, ws⟩ := run
  cases mark with
  | none => rfl
  | some e =>
    by_cases h : ws.length = 8
    · simp [segmentOf, h, Segment.words, toList_ofList h]
    · simp [segmentOf, h, Segment.words]

/-- The runs of a read are its segments as the statement says. -/
theorem segmented_of_runsAt {w : Windows} {addr : Addr} {total : Nat} (runs : List (Option Nat × List Word)) (pos : Nat)
    (h : RunsAt (fun j => w.tx.element 32 (addr.toNat + 4 * j)) total pos runs) :
    Segmented w addr total pos (runs.map segmentOf) := by
  induction runs generalizing pos with
  | nil => exact h
  | cons run rest ih =>
    obtain ⟨⟨long, same, other⟩, later⟩ := h
    refine ⟨⟨?_, run.1, ?_, ?_, ?_⟩, ?_⟩
    · rwa [segmentOf_words]
    · rwa [segmentOf_words]
    · rwa [segmentOf_words]
    · obtain ⟨mark, ws⟩ := run
      cases mark with
      | none => rfl
      | some e =>
        by_cases eight : ws.length = 8
        · simp [segmentOf, eight]
        · simp [segmentOf, eight]
    · rw [segmentOf_words]
      exact ih _ later

theorem segmented_segmentsOf (w : Windows) (addr : Addr) (ws : List Word) :
    Segmented w addr ws.length 0 (segmentsOf w addr ws) := by
  refine segmented_of_runsAt _ 0 (runsAt_groupRuns _ _ _ 0 (by simp) fun j h => ?_)
  simp [wordAddress, descriptorSize]

/-- The segments hold the words of the read. -/
theorem segmentsOf_words (w : Windows) (addr : Addr) (ws : List Word) : (segmentsOf w addr ws).flatMap Segment.words = ws := by
  have words := groupRuns_words
    (((List.range ws.length).map fun i => w.tx.element descriptorSize (wordAddress addr i)).zip ws)
  rw [List.map_snd_zip (by simp)] at words
  simp only [segmentsOf, List.flatMap_map, segmentOf_words]
  exact words

/-- Leading segments outside the TX ring, and the segments from there on. -/
theorem segmented_outside {w : Windows} {addr : Addr} {total : Nat} (outs : List (List Word)) {later : List Segment} (pos : Nat)
    (h : Segmented w addr total pos (outs.map Segment.outside ++ later)) :
    (∀ j, j < outs.flatten.length → w.tx.element 32 (addr.toNat + 4 * (pos + j)) = none) ∧
      Segmented w addr total (pos + outs.flatten.length) later := by
  induction outs generalizing pos with
  | nil => exact ⟨by simp, h⟩
  | cons ws outs ih =>
    obtain ⟨⟨-, place, same, -, rfl⟩, rest⟩ := h
    obtain ⟨more, last⟩ := ih _ rest
    simp only [Segment.words] at same more last
    refine ⟨fun j hj => ?_, ?_⟩
    · by_cases near : j < ws.length
      · exact same j near
      · have := more (j - ws.length) (by simp at hj ⊢; omega)
        rwa [show pos + ws.length + (j - ws.length) = pos + j by omega] at this
    · rw [List.flatten_cons, List.length_append, ← Nat.add_assoc]
      exact last

/-- An address lies in a window (R2). -/
theorem Window.holds_iff (w : Window) (size a : Nat) :
    w.holds size a = true ↔ w.base ≤ a ∧ a < w.base + w.count * size ∧ a < 16777216 := by
  simp only [Window.holds, decide_eq_true_eq]
  rfl

/-! ### A TX-DMA read is taken -/

/-- What taking a TX-DMA read leaves: the words before the first word in the TX ring are delivered, the rest waits. -/
theorem State.takeTxRead_segments {s : State} {w : Windows} {addr : Addr} {ws : List Word} {outs : List (List Word)}
    {later : List Segment} (free : s.admission.inProgress = none) (hw : s.bus.windows = some w)
    (segments : segmentsOf w addr ws = outs.map Segment.outside ++ later) (first : ∀ x, later.head? ≠ some (.outside x)) :
    s.takeTxRead addr ws = { s with bus := { s.bus with
      mPort := some (forwardedRead .txDma addr ws.length), uPort := outs.flatten
      service := if later = [] then none else some (.descriptors later []) } } := by
  simp only [State.takeTxRead]
  split
  next none' => rw [none'] at hw; cases hw
  next v hv =>
    obtain rfl : w = v := Option.some.inj (hw.symm.trans hv)
    rw [segments, splitOutside_outside outs first,
      State.continueRead_stored (s := s.forward (forwardedRead .txDma addr ws.length)) outs later free]
    simp [State.forward, State.deliver]

/-- Whole descriptors from a descriptor's start on are the segments of a read of them. -/
theorem segmentsOf_descriptors {w : Windows} {addr : Addr} {ds : List Words8} (count : ds.length = 1 ∨ ds.length = 2)
    (low : w.tx.base ≤ addr.toNat) (start : (addr.toNat - w.tx.base) % 32 = 0)
    (high : addr.toNat + 32 * ds.length ≤ w.tx.base + 32 * w.tx.count) (limit : addr.toNat + 32 * ds.length ≤ 16777216) :
    segmentsOf w addr (ds.flatMap Words8.toList) =
      ds.zipIdx.map fun p => .whole ((addr.toNat - w.tx.base) / 32 + p.2) p.1 := by
  have place : ∀ j, j < 8 * ds.length →
      w.tx.element descriptorSize (wordAddress addr j) = some ((addr.toNat - w.tx.base) / 32 + j / 8) := by
    intro j hj
    have holds : w.tx.holds 32 (addr.toNat + 4 * j) = true := by
      rw [Window.holds_iff]
      omega
    simp only [Window.element, descriptorSize, wordAddress, holds, if_true, Option.some.injEq]
    omega
  have marks : (List.range (8 * ds.length)).map (fun i => w.tx.element descriptorSize (wordAddress addr i)) =
      (List.range (8 * ds.length)).map fun j => some ((addr.toNat - w.tx.base) / 32 + j / 8) :=
    List.map_congr_left fun j hj => place j (List.mem_range.1 hj)
  have total : (ds.flatMap Words8.toList).length = 8 * ds.length := by
    obtain h | h := count
    · obtain ⟨d, rfl⟩ := List.length_eq_one_iff.1 h
      rfl
    · obtain ⟨d, e, rfl⟩ := List.length_eq_two.1 h
      rfl
  rw [segmentsOf, total, marks]
  generalize (addr.toNat - w.tx.base) / 32 = k
  obtain h | h := count
  · obtain ⟨d, rfl⟩ := List.length_eq_one_iff.1 h
    have run := groupRuns_run (m := some k) (xs := d.toList) (by simp [Words8.toList]) (rest := []) (by simp)
    exact congrArg (List.map segmentOf) run
  · obtain ⟨d, e, rfl⟩ := List.length_eq_two.1 h
    have second := groupRuns_run (m := some (k + 1)) (xs := e.toList) (by simp [Words8.toList]) (rest := []) (by simp)
    have run := groupRuns_run (m := some k) (xs := d.toList) (by simp [Words8.toList])
      (rest := e.toList.map fun x => (some (k + 1), x)) (by simp [Words8.toList])
    rw [List.append_nil] at second
    rw [second] at run
    have zipped : ((List.range (8 * 2)).map fun j => some (k + j / 8)).zip ([d, e].flatMap Words8.toList) =
        d.toList.map (fun x => (some k, x)) ++ e.toList.map fun x => (some (k + 1), x) := by
      simp [List.range_succ, Words8.toList]
    rw [List.length_cons, List.length_singleton, zipped, run]
    rfl

/-- A read that begins with whole descriptors. -/
theorem takeTxRead_descriptors {s : State} {w : Windows} {addr : Addr} {ds : List Words8}
    (free : s.admission.inProgress = none) (hw : s.bus.windows = some w) (count : ds.length = 1 ∨ ds.length = 2)
    (low : w.tx.base ≤ addr.toNat) (start : (addr.toNat - w.tx.base) % 32 = 0)
    (high : addr.toNat + 32 * ds.length ≤ w.tx.base + 32 * w.tx.count) (limit : addr.toNat + 32 * ds.length ≤ 16777216) :
    s.takeTxRead addr (ds.flatMap Words8.toList) = { s with bus := { s.bus with
      mPort := some { write := false, tag := .txDma, addr := addr, length := 8 * ds.length, words := [] }, uPort := []
      service := some (.descriptors (ds.zipIdx.map fun p => .whole ((addr.toNat - w.tx.base) / 32 + p.2) p.1) []) } } := by
  have segments := segmentsOf_descriptors count low start high limit
  obtain h | h := count
  · obtain ⟨d, rfl⟩ := List.length_eq_one_iff.1 h
    exact State.takeTxRead_segments (outs := []) free hw segments (by simp)
  · obtain ⟨d, e, rfl⟩ := List.length_eq_two.1 h
    exact State.takeTxRead_segments (outs := []) free hw segments (by simp)

/-- A read with a word in the TX ring: what is delivered at once, and the segments that wait. -/
theorem takeTxRead_ring {s : State} {w : Windows} {addr : Addr} {ws : List Word} {i : Nat}
    (free : s.admission.inProgress = none) (hw : s.bus.windows = some w) (hi : i < ws.length)
    (inside : w.tx.holds 32 (addr.toNat + 4 * i) = true) :
    ∃ out gs, ws = out ++ gs.flatMap Segment.words ∧
      (∀ j, j < out.length → w.tx.holds 32 (addr.toNat + 4 * j) = false) ∧ Segmented w addr ws.length out.length gs ∧
      (∀ x, gs.head? ≠ some (.outside x)) ∧
      s.takeTxRead addr ws = { s with bus := { s.bus with
        mPort := some { write := false, tag := .txDma, addr := addr, length := ws.length, words := [] }, uPort := out
        service := some (.descriptors gs []) } } := by
  obtain ⟨outs, gs, segments, first⟩ := exists_outside (segmentsOf w addr ws)
  have parts := segmented_segmentsOf w addr ws
  have words := segmentsOf_words w addr ws
  rw [segments] at parts words
  obtain ⟨before, rest⟩ := segmented_outside outs 0 parts
  simp only [Nat.zero_add] at before rest
  have out : ∀ j, j < outs.flatten.length → w.tx.holds 32 (addr.toNat + 4 * j) = false := fun j hj => by
    have := before j hj
    by_contra holds
    simp [Window.element, holds] at this
  have split : ws = outs.flatten ++ gs.flatMap Segment.words := by
    rw [← words, List.flatMap_append, List.flatMap_map]
    simp [Segment.words, List.flatMap_id']
  have nonempty : gs ≠ [] := by
    rintro rfl
    have : outs.flatten.length = ws.length := by rw [split]; simp
    rw [out i (this ▸ hi)] at inside
    cases inside
  have taken := State.takeTxRead_segments free hw segments first
  rw [if_neg nonempty] at taken
  exact ⟨outs.flatten, gs, split, out, rest, first, taken⟩

/-! ### A descriptor returns -/

/-- A held descriptor holds everything behind it (R8). -/
theorem State.continueRead_held {s : State} (held : s.admission.inProgress ≠ none) (later : List Segment) (ps : List Piece) :
    s.continueRead later ps = { s with bus := { s.bus with service := some (.descriptors later ps) } } := by
  obtain ⟨v, hv⟩ := Option.ne_none_iff_exists'.1 held
  have all : s.passOnAll ps = (s, ps) := by cases ps <;> simp [State.passOnAll, hv]
  simp [State.continueRead, all, State.keepReading, hv]

/-- With nothing held, the first piece is passed on (R8). -/
theorem State.continueRead_cons {s : State} (free : s.admission.inProgress = none) (later : List Segment) (p : Piece)
    (ps : List Piece) : s.continueRead later (p :: ps) = (s.passOn p).continueRead later ps := by
  simp [State.continueRead, State.passOnAll, free]

/-- The next descriptor returns with the words outside the ring that follow it. -/
theorem State.nextDescriptor_eq {s u : State} {g : Segment} {p : Piece} {outs : List (List Word)} {later : List Segment}
    {behind : List Piece} (service : s.bus.service = some (.descriptors (g :: (outs.map Segment.outside ++ later)) behind))
    (first : ∀ x, later.head? ≠ some (.outside x)) (returned : s.returnSegment g = (u, p)) :
    s.nextDescriptor = u.continueRead later (behind ++ p :: outs.map Piece.stored) := by
  simp [State.nextDescriptor, service, splitOutside_outside outs first, returned]

/-- With nothing held, a descriptor that returns as stored is delivered with the words that follow it. -/
theorem State.nextDescriptor_stored {s : State} {g : Segment} {r : Report} {ws : List Word} {outs : List (List Word)}
    {later : List Segment} (free : s.admission.inProgress = none)
    (service : s.bus.service = some (.descriptors (g :: (outs.map Segment.outside ++ later)) []))
    (first : ∀ x, later.head? ≠ some (.outside x)) (returned : s.returnSegment g = ({ s with report := r }, .stored ws)) :
    s.nextDescriptor = { s with
      bus := { s.bus with uPort := s.bus.uPort ++ ws ++ outs.flatten
                          service := if later = [] then none else some (.descriptors later []) }
      report := r } := by
  have follow := State.continueRead_stored (s := { s with report := r }) (ws :: outs) later free
  rw [State.nextDescriptor_eq service first returned]
  refine follow.trans ?_
  simp [State.deliver]

/-- The return of a segment changes nothing but the counter of partly covered ones, in ACTIVE (R7, R9). -/
theorem returnSegment_of {s : State} {g : Segment} {p : Piece} {counted : List Counter}
    (h : (∃ i d, g = .whole i d ∧ counted = [] ∧
        p = if s.policy.mode = .active ∧ d.w4.getLsbD 0 = true ∧ d.w4.getLsbD 1 = false then .sampled i d s.air.airTime
          else .stored d.toList) ∨
      (∃ ws, g = .partly ws ∧ p = .stored ws ∧ counted = if s.policy.mode = .active then [.partialRecord] else [])) :
    ∃ r, s.returnSegment g = ({ s with report := r }, p) ∧ Reported [] counted s { s with report := r } := by
  obtain ⟨i, d, rfl, rfl, rfl⟩ | ⟨ws, rfl, rfl, rfl⟩ := h
  · exact ⟨s.report, rfl, .refl s⟩
  · by_cases active : s.policy.mode = .active
    · simp only [State.returnSegment, active, if_true]
      exact ⟨(s.count .partialRecord).report, rfl, (Reported.refl s).count (by simp)⟩
    · simp only [State.returnSegment, active, if_false]
      exact ⟨s.report, rfl, .refl s⟩

/-- A command that changes the ports and counts. -/
theorem changesBusAndCounts {c : Instr} {s : State} {bus' : Classifier} {r : Report} {set : List Flag} {counted : List Counter}
    (h : exec c s = .next ({ s with bus := bus', report := r } : State).driveLines)
    (reported : Reported set counted s { s with report := r }) :
    ∃ t, exec c s = .next t ∧ t.bus = bus' ∧ OnlyIn [.bus, .report] s t ∧ Reported set counted s t := by
  refine ⟨_, h, rfl, OnlyIn.driveLines (by simp [onlyIn_iff]) (by simp), (reported.congr rfl rfl).driveLines⟩

/-- Settles O17: the segments of a read, and what returns behind a held descriptor. -/
theorem descriptorReadIsTakenAndKept : Obligations.DescriptorReadIsTakenAndKept := by
  refine ⟨fun s w addr ds idle free observing hw count low start high limit => ?_,
    fun s w addr ws i idle free observing hw hi inside => ?_,
    fun s g p counted outs later behind held service first course => ?_⟩
  · have taken := (takeTransfer_read (tag := .txDma) idle observing).trans
      (takeTxRead_descriptors free hw count low start high limit)
    exact changesBus (congrArg (fun u : State => Host.Outcome.next u.driveLines) taken)
  · obtain ⟨out, gs, words, outside, segmented, ring, read⟩ := takeTxRead_ring free hw hi inside
    have taken := (takeTransfer_read (tag := .txDma) idle observing).trans read
    obtain ⟨t, done, bus, only, reported⟩ := changesBus (c := .descriptorRead (.take addr ws))
      (congrArg (fun u : State => Host.Outcome.next u.driveLines) taken)
    exact ⟨t, out, gs, done, words, outside, segmented, ring, bus, only, reported⟩
  · obtain ⟨r, returned, reported⟩ := returnSegment_of course
    have next : s.nextDescriptor = { s with
        bus := { s.bus with service := some (.descriptors later (behind ++ p :: outs.map Piece.stored)) }, report := r } := by
      rw [State.nextDescriptor_eq service first returned]
      exact State.continueRead_held (s := { s with report := r }) held _ _
    exact changesBusAndCounts (congrArg (fun u : State => Host.Outcome.next u.driveLines) next) reported

/-! ### A descriptor reaches the Rewriter -/

theorem find_index_eq_some {entries : List PendingEntry} {i : Nat} {e : PendingEntry}
    (h : entries.find? (fun e => e.index == i) = some e) : e ∈ entries ∧ e.index = i :=
  ⟨List.mem_of_find?_eq_some h, by simpa using List.find?_some h⟩

theorem find_index_eq_none {entries : List PendingEntry} {i : Nat} (h : entries.find? (fun e => e.index == i) = none) :
    ∀ e ∈ entries, e.index ≠ i := by simpa using h

/-- The words delivered under a decision (R133). -/
theorem rewrite_toList (decision : Decision) (notBefore : Option Time) (d : Words8) :
    (rewrite decision notBefore d).toList = deliveredWords decision notBefore d := by
  cases decision <;> rfl

/-- An entry for the index with the descriptor's fingerprint repeats its rewrite (R130). -/
theorem State.reachRewriter_repeated {s : State} {i : Nat} {d : Words8} {e : PendingEntry} (now : Time)
    (found : s.rewriter.entries.find? (fun e => e.index == i) = some e) (same : e.fingerprint = d.fingerprint) :
    s.reachRewriter i d now = (s.count .repeated).deliver (deliveredWords e.decision e.notBefore d) := by
  simp [State.reachRewriter, State.findEntry, found, same, rewrite_toList]

/-- Otherwise an admission begins, and an entry for the index is superseded (R129, R131). -/
theorem State.reachRewriter_begins {s : State} {i : Nat} {d : Words8} (now : Time)
    (other : ∀ e ∈ s.rewriter.entries, e.index = i → e.fingerprint ≠ d.fingerprint) :
    ∃ r, s.reachRewriter i d now = { s with
        admission := { s.admission with inProgress := some (s.beginView i d now) }
        rewriter := { s.rewriter with entries := s.rewriter.entries.filter fun e => e.index != i }
        report := r } ∧
      Reported [] (if ∃ e ∈ s.rewriter.entries, e.index = i then [.superseded] else []) s { s with report := r } := by
  cases found : s.rewriter.entries.find? (fun e => e.index == i) with
  | none =>
    have unlisted := find_index_eq_none found
    have kept : s.rewriter.entries.filter (fun e => e.index != i) = s.rewriter.entries :=
      List.filter_eq_self.2 fun e he => by simpa using unlisted e he
    rw [if_neg fun ⟨e, he, index⟩ => unlisted e he index, kept]
    exact ⟨s.report, by simp [State.reachRewriter, State.findEntry, found, State.beginAdmission], .refl s⟩
  | some e =>
    obtain ⟨listed, index⟩ := find_index_eq_some found
    rw [if_pos ⟨e, listed, index⟩]
    refine ⟨(s.count .superseded).report, ?_, (Reported.refl s).count (by simp)⟩
    simp [State.reachRewriter, State.findEntry, found, other e listed index, State.removeEntry, State.beginAdmission,
      State.beginView, State.count]

/-- A repeated delivery lets what waits behind it follow. -/
theorem State.continueRead_repeated {s : State} {i : Nat} {d : Words8} {e : PendingEntry} (now : Time)
    (free : s.admission.inProgress = none) (found : s.rewriter.entries.find? (fun e => e.index == i) = some e)
    (same : e.fingerprint = d.fingerprint) (later : List Segment) (outs : List (List Word)) :
    s.continueRead later (.sampled i d now :: outs.map Piece.stored) = { s with
      bus := { s.bus with
        uPort := s.bus.uPort ++ deliveredWords e.decision e.notBefore d ++ outs.flatten
        service := if later = [] then none else some (.descriptors later []) }
      report := (s.count .repeated).report } := by
  rw [State.continueRead_cons free, State.passOn, State.reachRewriter_repeated now found same,
    State.continueRead_stored outs later (s := (s.count .repeated).deliver _) free]
  rfl

/-- An admission that begins holds what waits behind it. -/
theorem State.continueRead_begins {s : State} {i : Nat} {d : Words8} (now : Time) (free : s.admission.inProgress = none)
    (other : ∀ e ∈ s.rewriter.entries, e.index = i → e.fingerprint ≠ d.fingerprint) (later : List Segment)
    (behind : List Piece) :
    ∃ r, s.continueRead later (.sampled i d now :: behind) = { s with
        bus := { s.bus with service := some (.descriptors later behind) }
        admission := { s.admission with inProgress := some (s.beginView i d now) }
        rewriter := { s.rewriter with entries := s.rewriter.entries.filter fun e => e.index != i }
        report := r } ∧
      Reported [] (if ∃ e ∈ s.rewriter.entries, e.index = i then [.superseded] else []) s { s with report := r } := by
  obtain ⟨r, begins, reported⟩ := State.reachRewriter_begins now other
  refine ⟨r, ?_, reported⟩
  rw [State.continueRead_cons free, State.passOn, begins]
  exact State.continueRead_held (by simp) later behind

/-- Settles O18: each descriptor by its course, with the words outside the ring that follow it. -/
theorem descriptorReturns : Obligations.DescriptorReturns := by
  refine ⟨fun _ => rfl, fun s i d outs later free service first => ⟨fun stored => ?_, fun active owned fresh => ?_⟩,
    fun s ws outs later free service first => ?_⟩
  · obtain ⟨r, returned, reported⟩ := returnSegment_of (s := s) (g := .whole i d) (p := .stored d.toList)
      (.inl ⟨i, d, rfl, rfl, (if_neg fun h => by
        obtain ⟨active, owned, fresh⟩ := h
        rw [active, owned, fresh] at stored
        simp at stored).symm⟩)
    have next := State.nextDescriptor_stored free service first returned
    exact changesBusAndCounts (congrArg (fun u : State => Host.Outcome.next u.driveLines) next) reported
  · have next : s.nextDescriptor = s.continueRead later (.sampled i d s.air.airTime :: outs.map Piece.stored) :=
      State.nextDescriptor_eq service first (congrArg (Prod.mk s) (if_pos ⟨active, owned, fresh⟩))
    refine ⟨fun e found same => ?_, fun other => ?_⟩
    · rw [State.continueRead_repeated _ free found same] at next
      exact changesBusAndCounts (congrArg (fun u : State => Host.Outcome.next u.driveLines) next)
        ((Reported.refl s).count (by simp))
    · obtain ⟨r, begins, reported⟩ := State.continueRead_begins s.air.airTime free other later (outs.map Piece.stored)
      refine ⟨_, congrArg (fun u : State => Host.Outcome.next u.driveLines) (next.trans begins), rfl, rfl, rfl, rfl,
        OnlyIn.driveLines (by simp [onlyIn_iff]) (by simp), (reported.congr rfl rfl).driveLines⟩
  · obtain ⟨r, returned, reported⟩ := returnSegment_of (s := s) (g := .partly ws) (.inr ⟨ws, rfl, rfl, rfl⟩)
    have next := State.nextDescriptor_stored free service first returned
    exact changesBusAndCounts (congrArg (fun u : State => Host.Outcome.next u.driveLines) next) reported

end Sys2Proof.Machine
end

section
/-! The end of an admission (O26): counted, its entry opened, the held words delivered, and what waits behind them passed on. -/

namespace Sys2Proof.Machine

/-! ### Opening an entry -/

/-- A full list evicts its head (R134). -/
theorem State.makeRoom_eq (s : State) : ∃ r, s.makeRoom = { s with
      rewriter := { s.rewriter with
        entries := if 16 ≤ s.rewriter.entries.length then s.rewriter.entries.tail else s.rewriter.entries }
      report := r } ∧
    ∀ (u : State) (set : List Flag) (counted : List Counter), Reported set counted u s → .evicted ∉ counted →
      Reported (set ++ if 16 ≤ s.rewriter.entries.length then [.pendingEvicted] else [])
        (counted ++ if 16 ≤ s.rewriter.entries.length then [.evicted] else []) u { s with report := r } := by
  by_cases full : 16 ≤ s.rewriter.entries.length
  · simp only [State.makeRoom, Config.pendingCapacity, full, if_true]
    exact ⟨((s.setFlag .pendingEvicted).count .evicted).report, rfl,
      fun u set counted h new => (h.setFlag .pendingEvicted).count new⟩
  · simp only [State.makeRoom, Config.pendingCapacity, full, if_false]
    exact ⟨s.report, rfl, fun u set counted h _ => by simpa using h⟩

/-- An entry opens at the tail, or is stale at once (R128, R137). -/
theorem State.openEntry_eq (s : State) (e : PendingEntry) : ∃ r, s.openEntry e = { s with
      rewriter := { s.rewriter with
        entries := (if 16 ≤ s.rewriter.entries.length then s.rewriter.entries.tail else s.rewriter.entries) ++
          if 0 < (e.expiry - s.air.airTime).toInt then [e] else [] }
      report := r } ∧
    ∀ (u : State) (set : List Flag) (counted : List Counter), Reported set counted u s → .evicted ∉ counted →
      .stale ∉ counted →
      Reported (set ++ if 16 ≤ s.rewriter.entries.length then [.pendingEvicted] else [])
        ((counted ++ if 16 ≤ s.rewriter.entries.length then [.evicted] else []) ++
          if 0 < (e.expiry - s.air.airTime).toInt then [] else [.stale]) u { s with report := r } := by
  obtain ⟨r, room, reported⟩ := s.makeRoom_eq
  have open' : s.openEntry e = if 0 < (e.expiry - s.air.airTime).toInt then
      { s.makeRoom with rewriter.entries := s.makeRoom.rewriter.entries ++ [e] } else s.makeRoom.count .stale := by
    simp only [State.openEntry, room, after, sdiff]
    split <;> simp_all
  by_cases fresh : 0 < (e.expiry - s.air.airTime).toInt
  · simp only [open', room, fresh, if_true]
    exact ⟨r, rfl, fun u set counted h evicted _ => by simpa using reported u set counted h evicted⟩
  · simp only [open', room, fresh, if_false]
    refine ⟨(({ s with report := r } : State).count .stale).report, by simp [State.count], ?_⟩
    intro u set counted h evicted stale
    refine (reported u set counted h evicted).count ?_
    split <;> simp [stale]

/-! ### The step of ADMISSION_RESULT up to the words that wait -/

/-- The state with the admission counted and ended, its entry opened, and the held words delivered as decided. -/
def State.decided (s : State) (v : AdmissionView) : State :=
  ({ (s.count v.verdict.decision.counter).count v.verdict.reason.counter with
      admission := { relief := reliefAfter v.verdict.decision s.admission.relief, inProgress := none } }.openEntry
    (v.entry s.policy.shaping.timeoutMs)).deliver (rewrite v.verdict.decision v.verdict.notBefore v.words).toList

/-- The end of an admission with a TX-DMA read in service. -/
theorem State.endAdmission_eq {s : State} {v : AdmissionView} {rest : List Segment} {behind : List Piece}
    (service : s.bus.service = some (.descriptors rest behind)) :
    s.endAdmission v = (s.decided v).continueRead rest behind := by
  simp only [State.endAdmission, service]
  rfl

/-- What the step does before the words that wait are passed on. -/
theorem State.decided_eq (s : State) {v : AdmissionView} {e : PendingEntry} (he : e = v.entry s.policy.shaping.timeoutMs) :
    ∃ r, s.decided v = { s with
      admission := { inProgress := none
                     relief := if e.decision = .defer ∨ e.decision = .narrowDefer then min 15 (s.admission.relief + 1) else 0 }
      rewriter := { s.rewriter with
        entries := (if 16 ≤ s.rewriter.entries.length then s.rewriter.entries.tail else s.rewriter.entries) ++
          if 0 < (e.expiry - s.air.airTime).toInt then [e] else [] }
      bus := { s.bus with uPort := s.bus.uPort ++ deliveredWords e.decision e.notBefore v.words }
      report := r } ∧
    Reported (if 16 ≤ s.rewriter.entries.length then [.pendingEvicted] else [])
      ([e.decision.counter, e.reason.counter] ++ (if 16 ≤ s.rewriter.entries.length then [.evicted] else []) ++
        if 0 < (e.expiry - s.air.airTime).toInt then [] else [.stale]) s { s with report := r } := by
  subst he
  have relief : reliefAfter v.verdict.decision s.admission.relief =
      if v.verdict.decision = .defer ∨ v.verdict.decision = .narrowDefer then min 15 (s.admission.relief + 1) else 0 := by
    unfold reliefAfter
    cases v.verdict.decision <;> rfl
  have distinct : v.verdict.reason.counter ∉ [v.verdict.decision.counter] := by
    cases v.verdict.decision <;> cases v.verdict.reason <;> decide
  have unevicted : Counter.evicted ∉ [v.verdict.decision.counter, v.verdict.reason.counter] := by
    cases v.verdict.decision <;> cases v.verdict.reason <;> decide
  have unstale : Counter.stale ∉ [v.verdict.decision.counter, v.verdict.reason.counter] := by
    cases v.verdict.decision <;> cases v.verdict.reason <;> decide
  have counted : Reported [] [v.verdict.decision.counter, v.verdict.reason.counter] s
      { (s.count v.verdict.decision.counter).count v.verdict.reason.counter with
        admission := { relief := reliefAfter v.verdict.decision s.admission.relief, inProgress := none } } :=
    (((Reported.refl s).count (by simp)).count distinct).congr rfl rfl
  obtain ⟨r, opened, reported⟩ := State.openEntry_eq
    { (s.count v.verdict.decision.counter).count v.verdict.reason.counter with
      admission := { relief := reliefAfter v.verdict.decision s.admission.relief, inProgress := none } }
    (v.entry s.policy.shaping.timeoutMs)
  refine ⟨r, ?_, (reported s [] _ counted unevicted unstale).congr rfl rfl⟩
  rw [State.decided, opened, rewrite_toList, relief]
  rfl

/-- The step does not read what is left of the read in service. -/
theorem State.decided_service (s : State) (v : AdmissionView) (x : Option Service) :
    ({ s with bus := { s.bus with service := x } } : State).decided v =
      { s.decided v with bus := { (s.decided v).bus with service := x } } := by
  have opened : ∀ (t : State) (e : PendingEntry), ({ t with bus := { t.bus with service := x } } : State).openEntry e =
      { t.openEntry e with bus := { (t.openEntry e).bus with service := x } } := by
    intro t e
    have room : ({ t with bus := { t.bus with service := x } } : State).makeRoom =
        { t.makeRoom with bus := { t.makeRoom.bus with service := x } } := by
      unfold State.makeRoom
      dsimp only
      split <;> rfl
    simp only [State.openEntry, room]
    split <;> rfl
  exact congrArg (fun u : State => u.deliver (rewrite v.verdict.decision v.verdict.notBefore v.words).toList)
    (opened { (s.count v.verdict.decision.counter).count v.verdict.reason.counter with
      admission := { relief := reliefAfter v.verdict.decision s.admission.relief, inProgress := none } }
      (v.entry s.policy.shaping.timeoutMs))

/-! ### What waits behind the held descriptor -/

/-- Stored words at the front are delivered, and the rest of what waits is passed on (R8). -/
theorem State.continueRead_stored_append {s : State} (free : s.admission.inProgress = none) (later : List Segment)
    (front : List (List Word)) (ps : List Piece) :
    s.continueRead later (front.map Piece.stored ++ ps) = (s.deliver front.flatten).continueRead later ps := by
  induction front generalizing s with
  | nil => simp [State.deliver]
  | cons ws front ih =>
    rw [List.map_cons, List.cons_append, State.continueRead_cons free, State.passOn, ih (s := s.deliver ws) free]
    simp [State.deliver]

/-- A report is told from a state with its lines driven as from the state before. -/
theorem Reported.afterDriven {set : List Flag} {counted : List Counter} {s t : State} (h : Reported set counted s t) :
    Reported set counted s.driveLines t := by
  obtain ⟨hf, he, hw, hc⟩ := h
  exact ⟨hf, he, hw, hc⟩

/-- ADMISSION_RESULT with a TX-DMA read in service. -/
theorem exec_admissionResult {s : State} {v : AdmissionView} {rest : List Segment} {behind : List Piece}
    (held : s.admission.inProgress = some v) (service : s.bus.service = some (.descriptors rest behind)) :
    exec .admissionResult s = .next ((s.decided v).continueRead rest behind).driveLines := by
  simp only [exec, execAdmissionResult, held, answer, State.endAdmission_eq service]

/-- Settles O26: the counters by name, the step with only stored words behind the held descriptor, and the second descriptor. -/
theorem admissionEnds : Obligations.AdmissionEnds := by
  refine ⟨rfl, rfl, fun s v rest behind e held service he => ?_, fun s v rest front behind i d now held service => ?_⟩
  · obtain ⟨r, decided, reported⟩ := s.decided_eq (v := v) (e := e) he
    have done := exec_admissionResult held service
    rw [decided, State.continueRead_stored behind rest (by rfl)] at done
    refine ⟨_, done, rfl, rfl, rfl, OnlyIn.driveLines (by simp [onlyIn_iff]) (by simp), (reported.congr rfl rfl).driveLines⟩
  · have free : (s.decided v).admission.inProgress = none := by
      obtain ⟨r, decided, -⟩ := s.decided_eq (v := v) rfl
      rw [decided]
    have first := exec_admissionResult
      (s := { s with bus := { s.bus with service := some (.descriptors [] (front.map Piece.stored)) } }) held rfl
    have second := exec_admissionResult held service
    rw [State.decided_service, State.continueRead_stored front [] (by exact free)] at first
    rw [State.continueRead_stored_append free] at second
    generalize s.decided v = u at free first second
    refine ⟨_, _, first, second, fun e found same => ?_, fun other => ?_⟩
    · have again := State.continueRead_repeated (s := u.deliver front.flatten) now free found same rest behind
      rw [again]
      refine ⟨rfl, OnlyIn.driveLines (by simp [onlyIn_iff]) (by simp), Reported.driveLines (Reported.afterDriven
        (((Reported.refl u).count (c := .repeated) (by simp)).congr rfl rfl))⟩
    · obtain ⟨r, begins, reported⟩ := State.continueRead_begins (s := u.deliver front.flatten) now free other rest
        (behind.map Piece.stored)
      rw [begins]
      refine ⟨rfl, rfl, rfl, OnlyIn.driveLines (by simp [onlyIn_iff]) (by simp), Reported.driveLines (Reported.afterDriven
        (reported.congr rfl rfl))⟩

end Sys2Proof.Machine
end

section
/-! CPU writes into the TX ring (O28): the pending entries of the descriptors they touch are abandoned. -/

namespace Sys2Proof.Machine

/-! ### The descriptors that a CPU write touches -/

theorem mem_squeeze {α : Type} [DecidableEq α] (l : List α) (x : α) : x ∈ squeeze l ↔ x ∈ l := by
  induction l with
  | nil => rfl
  | cons a rest ih =>
    simp only [squeeze, List.mem_cons, ← ih]
    split
    next none' => simp [none']
    next b more some' =>
      split
      next same => simp [some', same]
      next => simp [some']

/-- A run of one value is reduced to it. -/
theorem squeeze_of_constant {α : Type} [DecidableEq α] {l : List α} {a : α} (nonempty : l ≠ []) (same : ∀ x ∈ l, x = a) :
    squeeze l = [a] := by
  induction l with
  | nil => exact absurd rfl nonempty
  | cons b rest ih =>
    obtain rfl : b = a := same b List.mem_cons_self
    by_cases last : rest = []
    · subst last; rfl
    · simp [squeeze, ih last fun x hx => same x (List.mem_cons_of_mem _ hx)]

/-- The descriptors of which a CPU write carries any of words 0 to 4 (R11). -/
theorem mem_abandonedIndices {w : Windows} {addr : Addr} {n i : Nat} : i ∈ abandonedIndices w addr n ↔ i < w.tx.count ∧
    ∃ j, j < n ∧ w.tx.base ≤ addr.toNat + 4 * j ∧ addr.toNat + 4 * j < 16777216 ∧
      8 * i ≤ (addr.toNat + 4 * j - w.tx.base) / 4 ∧ (addr.toNat + 4 * j - w.tx.base) / 4 ≤ 8 * i + 4 := by
  have word : ∀ a : Nat, (if w.tx.wordIndex descriptorSize a ≤ 4 then w.tx.element descriptorSize a else none) = some i ↔
      i < w.tx.count ∧ w.tx.base ≤ a ∧ a < 16777216 ∧ 8 * i ≤ (a - w.tx.base) / 4 ∧ (a - w.tx.base) / 4 ≤ 8 * i + 4 := by
    intro a
    have holds := Window.holds_iff w.tx 32 a
    by_cases inside : w.tx.holds 32 a = true
    · simp only [Window.wordIndex, Window.element, descriptorSize, inside, if_true, Option.ite_none_right_eq_some,
        Option.some.injEq]
      have := holds.1 inside
      omega
    · simp only [Window.element, descriptorSize, inside]
      simp only [Bool.false_eq_true, if_false, ite_self, reduceCtorEq, false_iff]
      rw [holds] at inside
      omega
  rw [abandonedIndices, mem_squeeze, List.mem_filterMap]
  simp only [List.mem_range, word]
  simp only [wordAddress]
  constructor
  · rintro ⟨j, hj, count, low, high, first, last⟩
    exact ⟨count, j, hj, low, high, first, last⟩
  · rintro ⟨count, j, hj, low, high, first, last⟩
    exact ⟨j, hj, count, low, high, first, last⟩

/-! ### Abandonments -/

/-- A possible abandonment of a descriptor (R135). -/
theorem State.abandon_eq (s : State) (i : Nat) : ∃ r, s.abandon i = { s with
      rewriter := { s.rewriter with entries := s.rewriter.entries.filter fun e => e.index != i }, report := r } ∧
    Reported [] (if ∃ e ∈ s.rewriter.entries, e.index = i then [.abandoned] else []) s { s with report := r } := by
  cases found : s.rewriter.entries.find? (fun e => e.index == i) with
  | none =>
    have unlisted := find_index_eq_none found
    have kept : s.rewriter.entries.filter (fun e => e.index != i) = s.rewriter.entries :=
      List.filter_eq_self.2 fun e he => by simpa using unlisted e he
    rw [if_neg fun ⟨e, he, index⟩ => unlisted e he index, kept]
    exact ⟨s.report, by simp [State.abandon, State.findEntry, found], .refl s⟩
  | some e =>
    obtain ⟨listed, index⟩ := find_index_eq_some found
    rw [if_pos ⟨e, listed, index⟩]
    refine ⟨(s.count .abandoned).report, ?_, (Reported.refl s).count (by simp)⟩
    simp [State.abandon, State.findEntry, found, State.removeEntry, State.count]

/-- Entries counted by whether one index or a list of others holds theirs; no two entries have one index. -/
theorem length_filter_mem_cons {entries : List PendingEntry} (distinct : (entries.map PendingEntry.index).Nodup) (a : Nat)
    (l : List Nat) : (entries.filter fun e => decide (e.index ∈ a :: l)).length =
      (if ∃ e ∈ entries, e.index = a then 1 else 0) +
        ((entries.filter fun e => e.index != a).filter fun e => decide (e.index ∈ l)).length := by
  induction entries with
  | nil => simp
  | cons e rest ih =>
    rw [List.map_cons, List.nodup_cons] at distinct
    have ih := ih distinct.2
    by_cases here : e.index = a
    · have none' : ¬ ∃ e' ∈ rest, e'.index = a := by
        rintro ⟨e', he', index⟩
        exact distinct.1 (List.mem_map.2 ⟨e', he', index.trans here.symm⟩)
      rw [if_neg none'] at ih
      rw [if_pos ⟨e, List.mem_cons_self, here⟩, List.filter_cons_of_pos (by simp [here]), List.length_cons,
        List.filter_cons_of_neg (by simp [here]), ih]
      omega
    · have there : (∃ e' ∈ e :: rest, e'.index = a) ↔ ∃ e' ∈ rest, e'.index = a := by simp [here]
      rw [List.filter_cons_of_pos (p := fun e : PendingEntry => e.index != a) (by simp [here])]
      simp only [there]
      by_cases listed : e.index ∈ l
      · rw [List.filter_cons_of_pos (by simp [listed]), List.length_cons, List.filter_cons_of_pos (by simp [listed]),
          List.length_cons, ih]
        omega
      · rw [List.filter_cons_of_neg (by simp [here, listed]), List.filter_cons_of_neg (by simp [listed]), ih]

/-- The possible abandonments of a list of descriptors: their entries leave, and each is counted (R11, R135, R164). -/
theorem foldl_abandon (l : List Nat) (s : State) (distinct : (s.rewriter.entries.map PendingEntry.index).Nodup)
    (bound : s.counter .abandoned ≤ 65535) : ∃ r, l.foldl State.abandon s = { s with
      rewriter := { s.rewriter with entries := s.rewriter.entries.filter fun e => !decide (e.index ∈ l) }, report := r } ∧
    r.flags = s.report.flags ∧ r.enables = s.report.enables ∧ r.win = s.report.win ∧
    ({ s with report := r } : State).counter .abandoned =
      min 65535 (s.counter .abandoned + (s.rewriter.entries.filter fun e => decide (e.index ∈ l)).length) ∧
    ∀ c, c ≠ .abandoned → ({ s with report := r } : State).counter c = s.counter c := by
  induction l generalizing s with
  | nil => exact ⟨s.report, by simp, rfl, rfl, rfl, by simpa using bound, fun _ _ => rfl⟩
  | cons a l ih =>
    obtain ⟨r, abandoned, flags, enables, win, counters⟩ := s.abandon_eq a
    have distinct' : ((s.abandon a).rewriter.entries.map PendingEntry.index).Nodup := by
      rw [abandoned]
      exact distinct.sublist (List.filter_sublist.map _)
    have count : (s.abandon a).counter .abandoned =
        min 65535 (s.counter .abandoned + if ∃ e ∈ s.rewriter.entries, e.index = a then 1 else 0) := by
      rw [abandoned]
      refine (counters .abandoned).trans ?_
      split <;> simp [bound]
    obtain ⟨r', rest, flags', enables', win', counter', counters'⟩ := ih (s.abandon a) distinct' (by omega)
    refine ⟨r', ?_, ?_, ?_, ?_, ?_, fun c hc => ?_⟩
    · rw [List.foldl_cons, rest, abandoned]
      simp only [List.filter_filter]
      have both : (fun e : PendingEntry => !decide (e.index ∈ l) && e.index != a) =
          fun e => !decide (e.index ∈ a :: l) := by
        funext e
        by_cases here : e.index = a <;> simp [here]
      rw [both]
    · rw [flags', abandoned]; simpa using flags
    · rw [enables', abandoned]; exact enables
    · rw [win', abandoned]; exact win
    · have both := length_filter_mem_cons distinct a l
      have : (s.abandon a).rewriter.entries = s.rewriter.entries.filter fun e => e.index != a := by rw [abandoned]
      rw [this, count] at counter'
      refine (show _ = _ from counter').trans ?_
      omega
    · have : (s.abandon a).counter c = s.counter c := by
        rw [abandoned]
        refine (counters c).trans (if_neg ?_)
        split <;> simp [hc]
      exact (counters' c hc).trans this

/-! ### A CPU write into the TX ring -/

/-- A CPU write with a word in the TX ring is no control record; it goes to memory and may abandon. -/
theorem exec_possibleAbandonment {s : State} {w : Windows} {addr : Addr} {words : List WriteWord} {k : Nat}
    (idle : s.bus.service = none) (observing : s.bus.observing = true) (hw : s.bus.windows = some w) (hk : k < words.length)
    (inside : w.tx.holds 32 (addr.toNat + 4 * k) = true) : exec (.possibleAbandonment addr words) s =
      .next ((s.forward (forwardedWrite .cpu addr words)).abandonments addr words.length).driveLines := by
  have record : isControlRecord s.bus.windows addr words = false :=
    isControlRecord_eq_false (.inr (.inr (.inr (.inl ⟨w, k, hw, hk, by simp [Windows.inside, descriptorSize, inside]⟩))))
  have taken := takeTransfer_cpuWrite idle record
  rw [if_pos observing] at taken
  exact congrArg (fun u : State => Host.Outcome.next u.driveLines) taken

theorem State.abandonments_unconfigured {s : State} (mode : s.policy.mode = .unconfigured) (addr : Addr) (n : Nat) :
    s.abandonments addr n = s := by
  unfold State.abandonments
  split
  next observed => simp [State.observesWrites, mode] at observed
  · rfl

theorem State.abandonments_configured {s : State} {w : Windows} (hw : s.bus.windows = some w)
    (mode : s.policy.mode ≠ .unconfigured) (addr : Addr) (n : Nat) :
    s.abandonments addr n = (abandonedIndices w addr n).foldl State.abandon s := by
  have observed : s.observesWrites = true := by simpa [State.observesWrites] using mode
  simp [State.abandonments, hw, observed]

/-- A write in one descriptor that carries any of its words 0 to 4 touches that one. -/
theorem abandonedIndices_within {w : Windows} {addr : Addr} {n i j : Nat} (listed : i < w.tx.count) (nonempty : n ≠ 0)
    (fits : j + n ≤ 8) (place : addr.toNat = w.tx.base + 32 * i + 4 * j) :
    abandonedIndices w addr n = if j ≤ 4 then [i] else [] := by
  have only : ∀ x ∈ abandonedIndices w addr n, x = i ∧ j ≤ 4 := by
    intro x hx
    obtain ⟨-, l, hl, -, -, first, last⟩ := mem_abandonedIndices.1 hx
    omega
  split
  next early =>
    have mem : i ∈ abandonedIndices w addr n :=
      mem_abandonedIndices.2 ⟨listed, 0, by omega, by omega, by omega, by omega, by omega⟩
    refine squeeze_of_constant (fun none' => ?_) fun x hx => (only x ((mem_squeeze _ x).2 hx)).1
    rw [abandonedIndices, none'] at mem
    cases mem
  next late =>
    rw [List.eq_nil_iff_forall_not_mem]
    exact fun x hx => late (only x hx).2

/-- Settles O28: one descriptor, and any number of them. -/
theorem cpuWriteAbandons : Obligations.CpuWriteAbandons := by
  refine ⟨fun s w addr words i j idle observing hw listed nonempty fits place _ => ?_,
    fun s w addr words k hit idle observing hw hk inside hits distinct bound => ?_⟩
  · have length : words.length ≠ 0 := by simpa using nonempty
    have inside : w.tx.holds 32 (addr.toNat + 4 * 0) = true := by
      rw [Window.holds_iff]
      omega
    have done := exec_possibleAbandonment (words := words) (k := 0) idle observing hw (by omega) inside
    have untouched : (s.forward (forwardedWrite .cpu addr words)).abandonments addr words.length =
        s.forward (forwardedWrite .cpu addr words) → ∃ t, exec (.possibleAbandonment addr words) s = .next t ∧ t.bus = { s.bus with
          mPort := some { write := true, tag := .cpu, addr := addr, length := words.length, words := words }
          uPort := [] } ∧ OnlyIn [.bus, .report] s t ∧ Reported [] [] s t := by
      intro h
      rw [h] at done
      exact passed_write done
    by_cases mode : s.policy.mode = .unconfigured
    · obtain ⟨t, ht, bus, only, reported⟩ := untouched
        (State.abandonments_unconfigured (s := s.forward (forwardedWrite .cpu addr words)) mode addr _)
      exact ⟨t, ht, bus, fun h => absurd mode h, fun _ => ⟨only, reported⟩⟩
    have abandons := State.abandonments_configured (s := s.forward (forwardedWrite .cpu addr words)) hw mode addr words.length
    rw [abandonedIndices_within listed length fits place] at abandons
    by_cases early : j ≤ 4
    · obtain ⟨r, abandoned, reported⟩ := (s.forward (forwardedWrite .cpu addr words)).abandon_eq i
      rw [if_pos early, List.foldl_cons, List.foldl_nil, abandoned] at abandons
      rw [abandons] at done
      refine ⟨_, done, rfl, fun _ _ => ⟨rfl, OnlyIn.driveLines (by simp [onlyIn_iff]) (by simp),
        (reported.congr rfl rfl).driveLines⟩, fun h => h.elim (fun h => absurd h mode) fun h => absurd early (by omega)⟩
    · rw [if_neg early] at abandons
      obtain ⟨t, ht, bus, only, reported⟩ := untouched abandons
      exact ⟨t, ht, bus, fun _ h => absurd h early, fun _ => ⟨only, reported⟩⟩
  · have done := exec_possibleAbandonment idle observing hw hk inside
    by_cases mode : s.policy.mode = .unconfigured
    · have none' : ∀ i, hit i = false := fun i => by
        have := hits i
        simp only [mode, ne_eq, not_true, false_and, iff_false] at this
        simpa using this
      rw [State.abandonments_unconfigured (s := s.forward (forwardedWrite .cpu addr words)) mode] at done
      simp only [none', Bool.not_false, List.filter_true, List.filter_false, List.length_nil, Nat.add_zero]
      refine ⟨_, done, rfl, rfl, OnlyIn.driveLines (by simp [onlyIn_iff]) (by simp), rfl, rfl, rfl,
        (min_eq_right bound).symm, fun _ _ => rfl⟩
    · have members : ∀ i, hit i = decide (i ∈ abandonedIndices w addr words.length) := fun i => by
        rw [Bool.eq_iff_iff, hits i, decide_eq_true_iff, mem_abandonedIndices]
        simp [mode]
      obtain ⟨r, abandoned, flags, enables, win, counter, counters⟩ :=
        foldl_abandon (abandonedIndices w addr words.length) (s.forward (forwardedWrite .cpu addr words)) distinct bound
      rw [State.abandonments_configured (s := s.forward (forwardedWrite .cpu addr words)) hw mode, abandoned] at done
      simp only [members]
      refine ⟨_, done, rfl, rfl, OnlyIn.driveLines (by simp [onlyIn_iff]) (by simp), flags, enables, win, counter, counters⟩

end Sys2Proof.Machine
end

section
/-! Writes that stay in service, arrivals at Record Intake, and the completions (O27). -/

namespace Sys2Proof.Machine

/-! ### A write that stays in service -/

/-- The marked words of a write, cut before the first mark. -/
theorem split_at_mark {μ : Type} {mark : Nat → Option μ} {words : List WriteWord} {k : Nat} (hk : k ≤ words.length)
    (before : ∀ j, j < k → mark j = none) (marked : k < words.length → mark k ≠ none) :
    ((List.range words.length).map mark).zip words =
        (words.take k).map (fun x => (none, x)) ++ (((List.range words.length).map mark).zip words).drop k ∧
      (∀ x, ((((List.range words.length).map mark).zip words).drop k).head? = some x → x.1 ≠ none) ∧
      ((((List.range words.length).map mark).zip words).drop k = [] ↔ k = words.length) := by
  refine ⟨?_, fun x hx => ?_, ?_⟩
  · have front : (((List.range words.length).map mark).zip words).take k = (words.take k).map fun x => (none, x) := by
      refine List.ext_getElem (by simp) fun j h1 h2 => ?_
      simp only [List.length_map, List.length_take] at h2
      simp [before j (by omega)]
    rw [← front, List.take_append_drop]
  · have short : k < words.length := by
      by_contra h
      rw [List.drop_eq_nil_of_le (by simp; omega)] at hx
      simp at hx
    rw [List.head?_drop, List.getElem?_eq_getElem (by simpa using short)] at hx
    obtain rfl := Option.some.inj hx
    simpa using marked short
  · rw [List.drop_eq_nil_iff]
    simp only [List.length_zip, List.length_map, List.length_range, min_self]
    omega

/-- Taking a write whose words are marked: it goes to memory up to its first marked word, and the rest stays in service. -/
theorem sendPlain_marks {μ : Type} {s : State} {tag : Tag} {addr : Addr} {words : List WriteWord}
    (kept : List (Option μ × WriteWord) → Service) {mark : Nat → Option μ} {k : Nat} (hk : k ≤ words.length)
    (before : ∀ j, j < k → mark j = none) (marked : k < words.length → mark k ≠ none) :
    (s.forward { forwardedWrite tag addr words with words := [] }).sendPlain kept
        (((List.range words.length).map mark).zip words) =
      { s with bus := { s.bus with
        uPort := []
        mPort := some { write := true, tag := tag, addr := addr, length := words.length, words := words.take k }
        service := if k = words.length then none
          else some (kept ((((List.range words.length).map mark).zip words).drop k)) } } := by
  obtain ⟨split, first, ends⟩ := split_at_mark hk before marked
  have sent := State.sendPlain_split (s.forward { forwardedWrite tag addr words with words := [] }) kept (words.take k) _ first
  rw [← split] at sent
  rw [sent]
  simp only [ends]
  rfl

/-- The words of a write sent, and those up to the next marked word. -/
theorem send_sendPlain {μ : Type} {s : State} (kept : List (Option μ × WriteWord) → Service) {f : Forwarded}
    (now plain : List WriteWord) {later : List (Option μ × WriteWord)} (port : s.bus.mPort = some f)
    (first : ∀ x, later.head? = some x → x.1 ≠ none) :
    (s.send now).sendPlain kept (plain.map (fun x => (none, x)) ++ later) = { s with bus := { s.bus with
      mPort := some { f with words := f.words ++ (now ++ plain) }
      service := if later = [] then none else some (kept later) } } := by
  rw [State.sendPlain_split (s.send now) kept plain later first]
  simp [State.send, port]

/-! ### Arrivals at Record Intake (R53, R54, R56) -/

/-- An entry that joins the FIFO, both marks clear (R53). -/
def newEntry (b : EntryBody) : Entry := { body := b, voidMap := false, voidNeighbour := false }

/-- A full FIFO drops what arrives (R54). -/
theorem State.arrive_full {s : State} (full : 8 ≤ s.intake.fifo.length) (b : EntryBody) :
    s.arrive b = (s.setFlag .intakeOverflow).count .intakeDrop := by
  simp [State.arrive, Config.fifoCapacity, full]

/-- A FOLDING processor goes on while the entry joins the FIFO. -/
theorem State.arrive_folding {s : State} (room : s.intake.fifo.length < 8) (folding : s.intake.fold ≠ none) (b : EntryBody) :
    s.arrive b = { s with intake := { s.intake with fifo := s.intake.fifo ++ [newEntry b] } } := by
  obtain ⟨f, hf⟩ := Option.ne_none_iff_exists'.1 folding
  have : ¬ 8 ≤ s.intake.fifo.length := by omega
  simp [State.arrive, Config.fifoCapacity, this, State.startFold, hf, newEntry]

/-- A sample is taken as the statements say it (R23 to R25). -/
theorem sampleTaken_takeSample (s : State) (x : Word) : SampleTaken x [] [] s (s.takeSample x) := by
  have same : ∀ air' : AirTimeUnit, Reported [] [] s ({ s with air := air' } : State) := fun _ =>
    (Reported.refl s).congr rfl rfl
  refine ⟨fun unaligned => ?_, fun aligned err herr => ⟨fun low high => ?_, fun out few => ?_, fun out run => ?_⟩⟩
  · rw [State.takeSample, if_pos (by simp [unaligned])]
    exact ⟨rfl, same _⟩
  · have window : errorInWindow (sdiff x s.air.offset) = true := by
      simp only [errorInWindow, sdiff, ← herr, decide_eq_true_eq]
      exact ⟨low, high⟩
    rw [State.takeSample, if_neg (by simp [aligned]), if_pos window]
    exact ⟨same _, by rw [herr]; rfl⟩
  · have window : errorInWindow (sdiff x s.air.offset) = false := by
      simp only [errorInWindow, sdiff, ← herr, decide_eq_false_iff_not]
      omega
    have short : s.air.outlierRun + 1 < 4 := by omega
    rw [State.takeSample, if_neg (by simp [aligned]), if_neg (by simp [window]), if_pos short]
    exact ⟨same _, rfl⟩
  · have window : errorInWindow (sdiff x s.air.offset) = false := by
      simp only [errorInWindow, sdiff, ← herr, decide_eq_false_iff_not]
      omega
    have long : ¬ s.air.outlierRun + 1 < 4 := by omega
    rw [State.takeSample, if_neg (by simp [aligned]), if_neg (by simp [window]), if_neg long]
    exact ⟨((same _).setFlag .timeStepped).count (by simp), rfl⟩

/-- What the processor holds of a fold that begins now (R56). -/
def State.begunFold (s : State) : Fold := { context := s.foldContext, handedOn := false }

/-- An IDLE processor begins the fold of what arrives: the sample first, then the values of the moment (R56). -/
theorem State.arrive_idle {s : State} (idle : s.intake.fold = none) (empty : s.intake.fifo = []) (b : EntryBody) :
    ∃ air' r, s.arrive b = { s with
        air := air', report := r
        intake := { s.intake with fifo := [newEntry b], fold := some ({ s with air := air' } : State).begunFold } } ∧
      (∀ x, b = .receive x → SampleTaken (x.frameEnd - (x.arrival - BitVec.ofNat 32 s.policy.radio.latency)) [] [] s
        { s with air := air', report := r }) ∧
      ((∀ x, b ≠ .receive x) → air' = s.air ∧ r = s.report) := by
  have started : s.arrive b = { ({ s with intake := { s.intake with fifo := [newEntry b] } } : State).sampleFor (newEntry b) with
      intake := { (({ s with intake := { s.intake with fifo := [newEntry b] } } : State).sampleFor (newEntry b)).intake with
        fold := some (({ s with intake := { s.intake with fifo := [newEntry b] } } : State).sampleFor
          (newEntry b)).begunFold } } := by
    simp [State.arrive, Config.fifoCapacity, State.startFold, idle, empty, newEntry, State.begunFold]
  cases b with
  | receive x =>
    have taken := sampleTaken_takeSample ({ s with intake := { s.intake with fifo := [newEntry (.receive x)] } } : State)
      (x.sample s.policy.radio.latency)
    obtain ⟨air', r, sampled⟩ := State.takeSample_touches
      ({ s with intake := { s.intake with fifo := [newEntry (.receive x)] } } : State) (x.sample s.policy.radio.latency)
    rw [sampled] at taken
    refine ⟨air', r, started.trans ?_, fun y hy => ?_, fun h => absurd rfl (h x)⟩
    · simp only [State.sampleFor, newEntry] at sampled ⊢
      rw [sampled]
      rfl
    · cases hy
      exact taken
  | spectral x => exact ⟨s.air, s.report, started, fun y hy => (by cases hy), fun _ => ⟨rfl, rfl⟩⟩
  | completion x => exact ⟨s.air, s.report, started, fun y hy => (by cases hy), fun _ => ⟨rfl, rfl⟩⟩

end Sys2Proof.Machine
end

section
/-! Completions (O27): each done word 4 of a TX-DMA write closes the pending entry of its descriptor, or is untracked. -/

namespace Sys2Proof.Machine

/-! ### The completion words of a write -/

/-- The marks of a TX-DMA write, as the statement gives them (R10). -/
theorem markCandidates_eq {w : Windows} {addr : Addr} {words : List WriteWord} {mark : Nat → Option Nat}
    (marks : ∀ j i, mark j = some i ↔ i < w.tx.count ∧ w.tx.base ≤ addr.toNat + 4 * j ∧ addr.toNat + 4 * j < 16777216 ∧
      (addr.toNat + 4 * j - w.tx.base) / 4 = 8 * i + 4 ∧
      ∃ a, words[j]? = some a ∧ a.enables.getLsbD 0 = true ∧ a.data.getLsbD 1 = true) :
    markCandidates w addr words = ((List.range words.length).map mark).zip words := by
  refine List.ext_getElem (by simp [markCandidates]) fun j h1 h2 => ?_
  have short : j < words.length := by simpa [markCandidates] using h1
  have same : candidateAt w (wordAddress addr j) words[j] = mark j := by
    refine Option.ext fun i => ?_
    rw [candidateAt_eq_some_iff, marks, Window.holds_iff, wordAddress]
    simp only [List.getElem?_eq_getElem short, Option.some.injEq, exists_eq_left']
    constructor
    · rintro ⟨holds, element, word4, enabled, done⟩
      exact ⟨by omega, by omega, by omega, by omega, enabled, done⟩
    · rintro ⟨count, low, high, word4, enabled, done⟩
      exact ⟨by omega, by omega, by omega, enabled, done⟩
  simp [markCandidates, same]

/-- A TX-DMA write taken in STANDBY or ACTIVE. -/
theorem takeTxWrite_marks {s : State} {w : Windows} {addr : Addr} {words : List WriteWord}
    (hw : s.bus.windows = some w) (mode : s.policy.mode ≠ .unconfigured) : s.takeTxWrite addr words =
      (s.forward { forwardedWrite .txDma addr words with words := [] }).sendPlain .completions (markCandidates w addr words) := by
  have observed : s.observesWrites = true := by simpa [State.observesWrites] using mode
  simp [State.takeTxWrite, hw, observed]

/-! ### A completion handled -/

@[simp] theorem State.complete_bus (s : State) (i : Nat) (a b : Word) : (s.complete i a b).bus = s.bus := by
  obtain ⟨_, _, _, _, h⟩ := s.complete_touches i a b
  rw [h]

/-- The next completion word of the write in service: the state but for the write is that of the completion handled. -/
theorem State.nextCompletion_eq {s : State} {f : Forwarded} {i : Nat} {a : WriteWord} {plain : List WriteWord}
    {later : List (Option Nat × WriteWord)}
    (service : s.bus.service = some (.completions ((some i, a) :: (plain.map (fun x => (none, x)) ++ later))))
    (port : s.bus.mPort = some f) (first : ∀ x, later.head? = some x → x.1 ≠ none) :
    s.nextCompletion = { s.complete i a.data (word5After (plain.map (fun x => (none, x)) ++ later)) with
      bus := { s.bus with
        mPort := some { f with words := f.words ++ codedWord a (s.completionCode i) :: plain }
        service := if later = [] then none else some (.completions later) } } := by
  have sent := send_sendPlain (s := s.complete i a.data (word5After (plain.map (fun x => (none, x)) ++ later)))
    .completions [codedWord a (s.completionCode i)] plain (by rwa [State.complete_bus]) first
  rw [State.complete_bus] at sent
  simp only [State.nextCompletion, service]
  exact sent

/-- The word with its code in byte 3, when that byte is enabled (R10). -/
theorem codedWord_eq (a : WriteWord) (code : BitVec 8) : codedWord a code =
    { enables := a.enables, data := if a.enables.getLsbD 3 = true then code ++ a.data.extractLsb' 0 24 else a.data } := by
  unfold codedWord
  split <;> rfl

/-- No entry: the completion is untracked (R136). -/
theorem State.complete_untracked {s : State} {i : Nat} (unlisted : ∀ e ∈ s.rewriter.entries, e.index ≠ i) (a b : Word) :
    s.complete i a b = s.count .untracked := by
  have none' : s.rewriter.entries.find? (fun e => e.index == i) = none := by simpa using unlisted
  simp [State.complete, State.findEntry, none']

/-- The state once a matched entry has been closed, before its evidence (R141). -/
def State.closed (s : State) (i : Nat) : State :=
  { s with rewriter := { s.rewriter with entries := s.rewriter.entries.filter fun e => e.index != i }
           report := (s.count .matched).report }

theorem State.complete_matched {s : State} {i : Nat} {e : PendingEntry}
    (found : s.rewriter.entries.find? (fun e => e.index == i) = some e) (a b : Word) :
    s.complete i a b = (s.closed i).pushEvidence e a b := by
  simp [State.complete, State.findEntry, found, State.closed, State.removeEntry, State.count]

theorem State.closed_reported (s : State) (i : Nat) : Reported [] [.matched] s (s.closed i) :=
  ((Reported.refl s).count (c := .matched) (by simp)).congr rfl rfl

/-- The evidence a completion calls for (R142). -/
theorem completionOutcome_eq_some_iff (result retries : Nat) (o : TxOutcome) : completionOutcome result retries = some o ↔
    o = .success ∧ result = 0 ∧ retries = 0 ∨ o = .failure ∧ (result = 1 ∨ (result = 0 ∧ 2 ≤ retries)) := by
  match result with
  | 0 =>
    by_cases zero : retries = 0
    · simp [completionOutcome, zero, eq_comm]
    · by_cases one : retries = 1
      · simp [completionOutcome, one]
      · have : 2 ≤ retries := by omega
        simp [completionOutcome, zero, one, this, eq_comm]
  | 1 => simp [completionOutcome, eq_comm]
  | n + 2 => simp [completionOutcome]

theorem completionOutcome_eq_none_iff (result retries : Nat) : completionOutcome result retries = none ↔
    2 ≤ result ∨ (result = 0 ∧ retries = 1) := by
  match result with
  | 0 =>
    by_cases zero : retries = 0
    · simp [completionOutcome, zero]
    · by_cases one : retries = 1
      · simp [completionOutcome, one]
      · simp [completionOutcome, zero, one]
  | 1 => simp [completionOutcome]
  | n + 2 => simp [completionOutcome]

/-- No evidence is pushed without an airtime or an outcome (R142). -/
theorem State.pushEvidence_none {s : State} {e : PendingEntry} {a b : Word}
    (h : e.airtime = 0 ∨ completionOutcome (resultOf a) (retriesOf a) = none) : s.pushEvidence e a b = s := by
  unfold State.pushEvidence
  split
  next o some' =>
    obtain zero | none' := h
    · rw [if_pos zero]
    · rw [none'] at some'; cases some'
  · rfl

theorem State.pushEvidence_some {s : State} {e : PendingEntry} {a b : Word} {o : TxOutcome} (timed : e.airtime ≠ 0)
    (h : completionOutcome (resultOf a) (retriesOf a) = some o) : s.pushEvidence e a b =
      s.arrive (.completion { outcome := o, start := s.actualStart e b, airtime := e.airtime, slices := e.slices }) := by
  simp [State.pushEvidence, h, timed]

/-- The codes of the decisions and the reasons (section 11.5). -/
theorem shapingCode_numbers : ∀ d m r n, (d, m) ∈ [(Decision.pass, 0), (.narrow, 1), (.defer, 2), (.narrowDefer, 3)] →
    (r, n) ∈ [(Reason.clear, 1), (.pinned, 2), (.unaligned, 3), (.badfield, 4), (.far, 5), (.nowindow, 6), (.relief, 7),
      (.shaped, 8), (.untracked, 9)] → (shapingCode d r).toNat = 64 * m + n := by
  intro d m r n hd hr
  have decision : d.code.toNat = m := by
    simp only [List.mem_cons, Prod.mk.injEq, List.not_mem_nil, or_false] at hd
    obtain ⟨rfl, rfl⟩ | ⟨rfl, rfl⟩ | ⟨rfl, rfl⟩ | ⟨rfl, rfl⟩ := hd <;> rfl
  have reason : r.code.toNat = n := by
    simp only [List.mem_cons, Prod.mk.injEq, List.not_mem_nil, or_false] at hr
    obtain ⟨rfl, rfl⟩ | ⟨rfl, rfl⟩ | ⟨rfl, rfl⟩ | ⟨rfl, rfl⟩ | ⟨rfl, rfl⟩ | ⟨rfl, rfl⟩ | ⟨rfl, rfl⟩ | ⟨rfl, rfl⟩ |
      ⟨rfl, rfl⟩ := hr <;> rfl
  have : r.code.toNat < 2 ^ 6 := r.code.isLt
  rw [shapingCode, BitVec.toNat_append, ← Nat.shiftLeft_add_eq_or_of_lt this, decision, reason, Nat.shiftLeft_eq]
  omega

/-- What is done besides the write when the completion of a pending entry is handled (R141, R142). -/
theorem complete_evidence {s : State} {i : Nat} {e : PendingEntry} {a : Word} {w5 : Word} {bus' : Classifier}
    (found : s.rewriter.entries.find? (fun e => e.index == i) = some e) {t : State}
    (ht : t = ({ s.complete i a w5 with bus := bus' } : State).driveLines) :
    t.rewriter.entries = s.rewriter.entries.filter (fun e => e.index != i) ∧
    ∀ result retries, result = (a.extractLsb' 2 2).toNat → retries = (a.extractLsb' 4 4).toNat →
      (e.airtime = 0 ∨ 2 ≤ result ∨ (result = 0 ∧ retries = 1) → OnlyIn [.rewriter, .bus, .report] s t ∧
        Reported [] [.matched] s t) ∧
      (e.airtime ≠ 0 → ∀ o, (o = .success ∧ result = 0 ∧ retries = 0 ∨
          o = .failure ∧ (result = 1 ∨ (result = 0 ∧ 2 ≤ retries))) →
        (8 ≤ s.intake.fifo.length → OnlyIn [.rewriter, .bus, .report] s t ∧
          Reported [.intakeOverflow] [.matched, .intakeDrop] s t) ∧
        (s.intake.fifo.length < 8 → s.intake.fold ≠ none ∨ s.intake.fifo = [] → ∃ x : Entry,
          x = { voidMap := false, voidNeighbour := false, body := .completion
                  { outcome := o, airtime := e.airtime, slices := e.slices
                    start := if w5 ≠ 0#32 ∧ s.air.aligned = true then w5 - s.air.offset else e.plannedStart } } ∧
          OnlyIn [.intake, .rewriter, .bus, .report] s t ∧ Reported [] [.matched] s t ∧
          t.intake.lastSequence = s.intake.lastSequence ∧ t.intake.fifo = s.intake.fifo ++ [x] ∧
          (s.intake.fold ≠ none → t.intake.fold = s.intake.fold) ∧
          (s.intake.fold = none → FoldBegun x [] [.matched] s t))) := by
  subst ht
  rw [State.complete_matched found]
  have matched := s.closed_reported i
  have entries : ((s.closed i).pushEvidence e a w5).rewriter = (s.closed i).rewriter := by
    obtain ⟨_, _, _, h⟩ := (s.closed i).pushEvidence_touches e a w5
    rw [h]
  refine ⟨congrArg Rewriter.entries entries, ?_⟩
  rintro result retries rfl rfl
  refine ⟨fun none' => ?_, fun timed o ho => ?_⟩
  · rw [State.pushEvidence_none (none'.imp id (completionOutcome_eq_none_iff ..).2)]
    refine ⟨OnlyIn.driveLines (by simp [onlyIn_iff, State.closed]) (by simp), (matched.congr rfl rfl).driveLines⟩
  rw [State.pushEvidence_some timed ((completionOutcome_eq_some_iff ..).2 ho)]
  refine ⟨fun full => ?_, fun room processor => ?_⟩
  · rw [State.arrive_full (s := s.closed i) full]
    refine ⟨OnlyIn.driveLines (by simp [onlyIn_iff, State.closed]) (by simp), Reported.driveLines
      (((matched.setFlag .intakeOverflow).count (by simp)).congr rfl rfl)⟩
  · refine ⟨newEntry (.completion { outcome := o, start := (s.closed i).actualStart e w5, airtime := e.airtime
                                    slices := e.slices }), rfl, ?_⟩
    by_cases idle : s.intake.fold = none
    · have empty : s.intake.fifo = [] := processor.resolve_left (fun h => h idle)
      obtain ⟨air', r, begun, -, plain⟩ := State.arrive_idle (s := s.closed i) idle empty
        (.completion { outcome := o, start := (s.closed i).actualStart e w5, airtime := e.airtime, slices := e.slices })
      obtain ⟨rfl, rfl⟩ := plain fun x h => by cases h
      rw [begun]
      refine ⟨OnlyIn.driveLines (by simp [onlyIn_iff, State.closed]) (by simp), (matched.congr rfl rfl).driveLines, rfl, by rw [empty]; rfl,
        fun h => absurd idle h, fun _ => ⟨rfl, fun r h => (by cases h), fun _ => ⟨rfl, (matched.congr rfl rfl).driveLines⟩⟩⟩
    · rw [State.arrive_folding (s := s.closed i) room idle]
      refine ⟨OnlyIn.driveLines (by simp [onlyIn_iff, State.closed]) (by simp), (matched.congr rfl rfl).driveLines, rfl, rfl,
        fun _ => rfl, fun h => absurd h idle⟩

/-- Settles O27: the taking of the write, each completion in turn, and the codes. -/
theorem completionIsMatchedOrUntracked : Obligations.CompletionIsMatchedOrUntracked := by
  refine ⟨fun s w addr words mark k idle observing hw mode marks hk before marked => ?_,
    fun s addr f i a plain rest later service port split first => ?_, shapingCode_numbers⟩
  · have taken := (takeTransfer_write (tag := .txDma) (addr := addr) (words := words) idle observing).trans
      (takeTxWrite_marks hw mode)
    rw [markCandidates_eq marks, sendPlain_marks .completions hk before marked] at taken
    exact changesBus (congrArg (fun u : State => Host.Outcome.next u.driveLines) taken)
  · subst split
    have next := State.nextCompletion_eq service port first
    refine ⟨_, congrArg (fun u : State => Host.Outcome.next u.driveLines) next, fun code hcode => ?_, fun unlisted => ?_,
      fun e found => ?_⟩
    · have same : code = s.completionCode i := by
        rw [hcode, State.completionCode, State.findEntry]
        cases s.rewriter.entries.find? (fun e => e.index == i) <;> rfl
      rw [← codedWord_eq, same]
      rfl
    · rw [State.complete_untracked unlisted]
      refine ⟨OnlyIn.driveLines (by simp [onlyIn_iff]) (by simp),
        (((Reported.refl s).count (c := .untracked) (by simp)).congr rfl rfl).driveLines⟩
    · obtain ⟨entries, evidence⟩ := complete_evidence (a := a.data)
        (w5 := word5After (plain.map (fun x => (none, x)) ++ later)) found rfl
      refine ⟨entries, fun result retries w5 hresult hretries hw5 => ?_⟩
      have same : w5 = word5After (plain.map (fun x => (none, x)) ++ later) := by
        rw [hw5]
        rfl
      rw [same]
      exact evidence result retries hresult hretries

end Sys2Proof.Machine
end

section
/-! Receive-status records (O15): a whole record is cut out of its write, and reaches Intake. -/

namespace Sys2Proof.Machine

/-! ### A record that arrives -/

/-- The next record of the write in service: the state but for the write is that of the record's arrival (R6). -/
theorem State.nextRecord_eq {s : State} {r : IntakeRecord} {arrival : Time} {f : Forwarded} {a : WriteWord}
    {plain : List WriteWord} {later : List (Option IntakeRecord × WriteWord)} (h : NextRecord r arrival f a plain later s) :
    s.nextRecord = { s.arriveRecord arrival r with
      bus := { s.bus with
        mPort := some { f with words := f.words ++ a :: plain }
        service := if later = [] then none else some (.records arrival later) } } := by
  obtain ⟨service, port, first⟩ := h
  have bus : (s.arriveRecord arrival r).bus = s.bus := by
    obtain ⟨_, _, _, touched⟩ := s.arriveRecord_touches arrival r
    rw [touched]
  have sent := send_sendPlain (s := s.arriveRecord arrival r) (.records arrival) [a] plain (by rwa [bus]) first
  rw [bus] at sent
  simp only [State.nextRecord, service]
  exact sent

/-- RECEIVE_RECORD_INTAKE on the write in service. -/
theorem exec_nextRecord {s : State} {addr : Addr} {r : IntakeRecord} {arrival : Time} {f : Forwarded} {a : WriteWord}
    {plain : List WriteWord} {later : List (Option IntakeRecord × WriteWord)} (h : NextRecord r arrival f a plain later s) :
    exec (.receiveRecordIntake addr .next) s = .next ({ s.arriveRecord arrival r with
      bus := { s.bus with
        mPort := some { f with words := f.words ++ a :: plain }
        service := if later = [] then none else some (.records arrival later) } } : State).driveLines :=
  congrArg (fun u : State => Host.Outcome.next u.driveLines) (State.nextRecord_eq h)

/-- A record that only counts, besides the write. -/
theorem record_counts {s : State} {r : IntakeRecord} {arrival : Time} {k : Counter} {bus' : Classifier}
    (h : s.arriveRecord arrival r = s.count k) :
    OnlyIn [.bus, .report] s ({ s.arriveRecord arrival r with bus := bus' } : State).driveLines ∧
      Reported [] [k] s ({ s.arriveRecord arrival r with bus := bus' } : State).driveLines := by
  rw [h]
  refine ⟨OnlyIn.driveLines (by simp [onlyIn_iff]) (by simp),
    (((Reported.refl s).count (c := k) (by simp)).congr rfl rfl).driveLines⟩

/-- An entry dropped at a full FIFO, besides the write (R54). -/
theorem record_dropped {s u : State} {b : EntryBody} {bus' : Classifier} (h : u = s.arrive b)
    (full : 8 ≤ s.intake.fifo.length) : OnlyIn [.bus, .report] s ({ u with bus := bus' } : State).driveLines ∧
      Reported [.intakeOverflow] [.intakeDrop] s ({ u with bus := bus' } : State).driveLines := by
  rw [h, State.arrive_full full]
  refine ⟨OnlyIn.driveLines (by simp [onlyIn_iff]) (by simp), Reported.driveLines
    ((((Reported.refl s).setFlag .intakeOverflow).count (c := .intakeDrop) (by simp)).congr rfl rfl)⟩

/-- The start of a fold keeps the entries and the last sequence. -/
theorem State.startFold_entries (s : State) :
    s.startFold.intake.fifo = s.intake.fifo ∧ s.startFold.intake.lastSequence = s.intake.lastSequence := by
  unfold State.startFold
  split
  next e rest _ _ =>
    obtain ⟨_, _, h⟩ := s.sampleFor_touches e
    simp only [h, and_self]
  · exact ⟨rfl, rfl⟩

/-- An entry that arrives at a FIFO with room joins its tail (R53). -/
theorem State.arrive_entries {s : State} (room : s.intake.fifo.length < 8) (b : EntryBody) :
    (s.arrive b).intake.fifo = s.intake.fifo ++ [newEntry b] ∧
      (s.arrive b).intake.lastSequence = s.intake.lastSequence := by
  have notFull : ¬ Config.fifoCapacity ≤ s.intake.fifo.length := by
    have : Config.fifoCapacity = 8 := rfl
    omega
  rw [State.arrive, if_neg notFull]
  exact State.startFold_entries _

/-- An entry that joins the FIFO of a FOLDING processor, besides the write. -/
theorem record_joins {s u : State} {b : EntryBody} {bus' : Classifier} (h : u = s.arrive b)
    (room : s.intake.fifo.length < 8) (folding : s.intake.fold ≠ none) :
    ({ u with bus := bus' } : State).driveLines.intake.fold = s.intake.fold ∧
      OnlyIn [.intake, .bus, .report] s ({ u with bus := bus' } : State).driveLines ∧
      Reported [] [] s ({ u with bus := bus' } : State).driveLines := by
  rw [h, State.arrive_folding room folding]
  refine ⟨rfl, OnlyIn.driveLines (by simp [onlyIn_iff]) (by simp), ((Reported.refl s).congr rfl rfl).driveLines⟩

/-! ### Receive-status records (R51, R52) -/

/-- The kinds that become entries, with their codes (R52). -/
theorem frameKind_of_mem {k : FrameKind} {n : Nat} (h : (k, n) ∈ [(FrameKind.ownData, 0), (.ownOther, 1),
    (.foreignBeacon, 2), (.foreignOther, 3), (.corrupted, 4)]) : frameKind n = some k := by
  simp only [List.mem_cons, Prod.mk.injEq, List.not_mem_nil, or_false] at h
  obtain ⟨rfl, rfl⟩ | ⟨rfl, rfl⟩ | ⟨rfl, rfl⟩ | ⟨rfl, rfl⟩ | ⟨rfl, rfl⟩ := h <;> rfl

theorem frameKind_of_ignored {n : Nat} (h : 5 ≤ n) : frameKind n = none := by
  unfold frameKind
  split
  case h_6 => rfl
  all_goals omega

/-- The entry of a record with a kind (R51). -/
theorem receiveEntry_of_kind {arrival : Time} {w0 w1 w2 w3 : Word} {k : FrameKind}
    (h : frameKind (w1.extractLsb' 17 3).toNat = some k) : receiveEntry arrival w0 w1 w2 w3 = some
      { arrival := arrival, frameEnd := w0, length := (w1.extractLsb' 0 12).toNat
        rate := (w1.extractLsb' 12 4).toFin, width := if w1.getLsbD 16 = true then .mhz40 else .mhz20, kind := k
        address := w3.extractLsb' 0 16 ++ w2, interval := (w3.extractLsb' 16 10).toNat } := by
  have kind : frameKind (field w1 17 3) = some k := h
  rw [receiveEntry, kind]
  rfl

theorem State.arriveRecord_receive {s : State} {arrival : Time} {index : Nat} {w0 w1 w2 w3 : Word} {e : ReceiveEntry}
    (h : receiveEntry arrival w0 w1 w2 w3 = some e) :
    s.arriveRecord arrival (.receive index w0 w1 w2 w3) = s.arrive (.receive e) := by
  simp [State.arriveRecord, h]

/-! ### The record of a write that holds one whole -/

/-- The words of a write of one whole receive-status record are all in its element of the RX ring. -/
theorem rx_element_of_start {w : Windows} {addr : Addr} (low : w.rx.base ≤ addr.toNat)
    (start : (addr.toNat - w.rx.base) % 16 = 0) (high : addr.toNat + 16 ≤ w.rx.base + 16 * w.rx.count)
    (limit : addr.toNat + 16 ≤ 16777216) {j : Nat} (hj : j < 4) :
    w.rx.element receiveSize (wordAddress addr j) = some ((addr.toNat - w.rx.base) / 16) := by
  have holds : w.rx.holds 16 (addr.toNat + 4 * j) = true := by
    rw [Window.holds_iff]
    omega
  simp only [Window.element, receiveSize, wordAddress, holds, if_true, Option.some.injEq]
  omega

theorem recordAt_of_rx {w : Windows} {a e : Nat} (h : w.rx.element receiveSize a = some e) : w.recordAt a = some (true, e) := by
  simp [Windows.recordAt, h]

/-- The marks of such a write: its last word is marked with the record. -/
theorem markRecords_whole {w : Windows} {addr : Addr} {w0 w1 w2 w3 : Word} (low : w.rx.base ≤ addr.toNat)
    (start : (addr.toNat - w.rx.base) % 16 = 0) (high : addr.toNat + 16 ≤ w.rx.base + 16 * w.rx.count)
    (limit : addr.toNat + 16 ≤ 16777216) :
    markRecords w addr ([w0, w1, w2, w3].map fun d => { data := d, enables := 0xF#4 }) =
      ([w0, w1, w2].map fun d => { data := d, enables := 0xF#4 }).map (fun x => (none, x)) ++
        [(some (.receive ((addr.toNat - w.rx.base) / 16) w0 w1 w2 w3), { data := w3, enables := 0xF#4 })] := by
  have element : ∀ j, j < 4 → w.rx.element receiveSize (wordAddress addr j) = some ((addr.toNat - w.rx.base) / 16) :=
    fun j hj => rx_element_of_start low start high limit hj
  generalize (addr.toNat - w.rx.base) / 16 = e at element
  have positions : w.rx.positions receiveSize addr 4 e = [0, 1, 2, 3] := by
    simp [Window.positions, List.range_succ, element 0, element 1, element 2, element 3]
  have whole : w.rx.wholeRecord receiveSize addr ([w0, w1, w2, w3].map fun d => { data := d, enables := 0xF#4 }) e =
      some [w0, w1, w2, w3] := by
    show (if (w.rx.positions receiveSize addr 4 e).length * 4 = receiveSize then
      fullWords _ (w.rx.positions receiveSize addr 4 e) else none) = _
    rw [positions]
    rfl
  simp only [List.map_cons, List.map_nil] at whole
  simp [markRecords, List.range_succ, Windows.recordMark, recordAt_of_rx (element 0 (by omega)),
    recordAt_of_rx (element 1 (by omega)), recordAt_of_rx (element 2 (by omega)), recordAt_of_rx (element 3 (by omega)),
    Windows.cutRecord, whole]

/-- An RX-DMA write taken in STANDBY or ACTIVE. -/
theorem takeRxWrite_marks {s : State} {w : Windows} {addr : Addr} {words : List WriteWord}
    (hw : s.bus.windows = some w) (mode : s.policy.mode ≠ .unconfigured) : s.takeRxWrite addr words =
      (s.forward { forwardedWrite .rxDma addr words with words := [] }).sendPlain (.records s.air.airTime)
        (markRecords w addr words) := by
  have observed : s.observesWrites = true := by simpa [State.observesWrites] using mode
  simp [State.takeRxWrite, hw, observed]

/-- What is done besides the write when a receive-status record with a kind arrives. -/
theorem receive_arrives {s u : State} {e : ReceiveEntry} {bus' : Classifier} (h : u = s.arrive (.receive e))
    (room : s.intake.fifo.length < 8) {t : State} (ht : t = ({ u with bus := bus' } : State).driveLines) :
    t.intake.fifo = s.intake.fifo ++ [{ body := .receive e, voidMap := false, voidNeighbour := false }] ∧
      t.intake.lastSequence = s.intake.lastSequence ∧
      (s.intake.fold ≠ none → t.intake.fold = s.intake.fold ∧ OnlyIn [.intake, .bus, .report] s t ∧ Reported [] [] s t) ∧
      (s.intake.fold = none → s.intake.fifo = [] →
        FoldBegun { body := .receive e, voidMap := false, voidNeighbour := false } [] [] s t ∧
        OnlyIn [.air, .intake, .bus, .report] s t) := by
  obtain ⟨fifo, sequence⟩ := State.arrive_entries room (.receive e)
  rw [← h] at fifo sequence
  subst ht
  refine ⟨fifo, sequence, fun folding => record_joins h room folding, fun idle empty => ?_⟩
  obtain ⟨air', r, begun, sampled, -⟩ := State.arrive_idle idle empty (.receive e)
  rw [h, begun]
  refine ⟨⟨rfl, fun x hx => ?_, fun no => absurd rfl (no e)⟩, OnlyIn.driveLines (by simp [onlyIn_iff]) (by simp)⟩
  · cases hx
    exact sampled e rfl

/-- Settles O15: the record is cut out, and arrives by its kind. -/
theorem receiveRecordIsTakenIn : Obligations.ReceiveRecordIsTakenIn := by
  refine ⟨fun s w addr w0 w1 w2 w3 idle observing hw mode low start high limit => ?_,
    fun s addr index w0 w1 w2 w3 arrival f a plain later next => ?_⟩
  · have taken := (takeTransfer_write (tag := .rxDma) (addr := addr)
      (words := [w0, w1, w2, w3].map fun d => { data := d, enables := 0xF#4 }) idle observing).trans (takeRxWrite_marks hw mode)
    rw [markRecords_whole low start high limit, State.sendPlain_split _ _ _ _ (by simp)] at taken
    exact changesBus (congrArg (fun u : State => Host.Outcome.next u.driveLines) taken)
  · refine ⟨_, exec_nextRecord next, rfl, fun ignored => ?_, fun k hk => ?_⟩
    · refine record_counts ?_
      have : frameKind (field w1 17 3) = none := frameKind_of_ignored ignored
      simp [State.arriveRecord, receiveEntry, this]
    · have entry := receiveEntry_of_kind (arrival := arrival) (w0 := w0) (w2 := w2) (w3 := w3) (frameKind_of_mem hk)
      have arrives := State.arriveRecord_receive (s := s) (index := index) entry
      exact ⟨fun full => record_dropped arrives full, fun room => ⟨_, rfl, receive_arrives arrives room rfl⟩⟩

end Sys2Proof.Machine
end

section
/-! Records of an RX-DMA write (O16): the marks of its words are those the statement gives, and each record by its kind. -/

namespace Sys2Proof.Machine

/-! ### The words of an element -/

/-- The positions of a run among those of a transfer. -/
theorem filter_range_interval {n lo hi : Nat} (low : lo ≤ hi) (high : hi ≤ n) :
    (List.range n).filter (fun i => decide (lo ≤ i ∧ i < hi)) = List.range' lo (hi - lo) := by
  obtain ⟨a, rfl⟩ := Nat.exists_eq_add_of_le low
  obtain ⟨b, rfl⟩ := Nat.exists_eq_add_of_le high
  have parts : List.range (lo + a + b) = List.range' 0 lo ++ List.range' lo a ++ List.range' (lo + a) b := by
    have front : List.range' 0 lo ++ List.range' lo a = List.range' 0 (lo + a) := by
      simpa using List.range'_append_1 (s := 0) (m := lo) (n := a)
    have all : List.range' 0 (lo + a) ++ List.range' (lo + a) b = List.range' 0 (lo + a + b) := by
      simpa using List.range'_append_1 (s := 0) (m := lo + a) (n := b)
    rw [List.range_eq_range', front, all]
  rw [parts, List.filter_append, List.filter_append]
  have before : (List.range' 0 lo).filter (fun i => decide (lo ≤ i ∧ i < lo + a)) = [] := by
    simp only [List.filter_eq_nil_iff, List.mem_range'_1, decide_eq_true_eq]
    omega
  have inside : (List.range' lo a).filter (fun i => decide (lo ≤ i ∧ i < lo + a)) = List.range' lo a := by
    simp only [List.filter_eq_self, List.mem_range'_1, decide_eq_true_eq]
    omega
  have behind : (List.range' (lo + a) b).filter (fun i => decide (lo ≤ i ∧ i < lo + a)) = [] := by
    simp only [List.filter_eq_nil_iff, List.mem_range'_1, decide_eq_true_eq]
    omega
  rw [before, inside, behind]
  simp

/-- The words of a run of a write, when every byte enable of each is set (R5). -/
theorem fullWords_range'_iff {words : List WriteWord} {lo k : Nat} {ds : List Word} :
    fullWords words (List.range' lo k) = some ds ↔
      ds.length = k ∧ (words.drop lo).take k = ds.map fun d => { data := d, enables := 0xF#4 } := by
  induction k generalizing lo ds with
  | zero => cases ds <;> simp [fullWords]
  | succ k ih =>
    have cons : fullWords words (List.range' lo (k + 1)) =
        ((words[lo]?).bind fun a => if a.enables = 0xF#4 then some a.data else none).bind fun d =>
          (fullWords words (List.range' (lo + 1) k)).map fun ds => d :: ds := by
      simp only [fullWords, List.range'_succ, List.mapM_cons]
      cases words[lo]? with
      | none => rfl
      | some a =>
        generalize List.mapM (m := Option) _ (List.range' (lo + 1) k) = rest
        by_cases full : a.enables = 0xF#4
        · cases rest <;> simp [full]
        · simp [full]
    rw [cons]
    by_cases short : lo < words.length
    · rw [List.getElem?_eq_getElem short, List.drop_eq_getElem_cons short]
      cases ds with
      | nil => by_cases full : words[lo].enables = 0xF#4 <;> simp [full]
      | cons d ds =>
        have word : words[lo] = { data := d, enables := 0xF#4 } ↔ words[lo].enables = 0xF#4 ∧ words[lo].data = d := by
          cases words[lo]; simp [and_comm]
        simp only [List.take_succ_cons, List.map_cons, List.cons.injEq, word, List.length_cons, Nat.add_right_cancel_iff]
        by_cases full : words[lo].enables = 0xF#4
        · simp [full, ih]
          tauto
        · simp [full]
    · rw [List.getElem?_eq_none (by omega), List.drop_eq_nil_of_le (by omega)]
      cases ds <;> simp

/-! ### The element of a word -/

theorem Window.element_eq_some_iff (w : Window) (size a e : Nat) :
    w.element size a = some e ↔ w.holds size a = true ∧ (a - w.base) / size = e := by
  unfold Window.element
  split <;> simp [*]

/-- The word behind a word of an element is of the same element, unless the element ends. -/
theorem element_next_iff {v : Window} {size a e : Nat} (sized : size = 16 ∨ size = 32) (base : v.base % size = 0)
    (limit : v.base + size * v.count ≤ 16777216) (aligned : a % 4 = 0) (element : v.element size a = some e) :
    v.element size (a + 4) = some e ↔ (a - v.base) % size + 4 ≠ size := by
  rw [Window.element_eq_some_iff, Window.holds_iff] at element ⊢
  obtain rfl | rfl := sized <;> omega

/-- The positions of an element's words up to the last one that a write carries. -/
theorem positions_eq {v : Window} {size j n e : Nat} {addr : Addr} (sized : size = 16 ∨ size = 32) (base : v.base % size = 0)
    (limit : v.base + size * v.count ≤ 16777216) (aligned : addr.toNat % 4 = 0) (hj : j < n)
    (element : v.element size (addr.toNat + 4 * j) = some e)
    (last : (addr.toNat + 4 * j - v.base) % size + 4 = size ∨ j + 1 = n) :
    v.positions size addr n e = List.range' (j - (addr.toNat + 4 * j - v.base) % size / 4)
      (j + 1 - (j - (addr.toNat + 4 * j - v.base) % size / 4)) := by
  rw [← filter_range_interval (n := n) (by omega) (by omega), Window.positions]
  refine List.filter_congr fun i hi => ?_
  have hi := List.mem_range.1 hi
  rw [Window.element_eq_some_iff, Window.holds_iff] at element
  rw [beq_eq_decide, decide_eq_decide, Window.element_eq_some_iff, Window.holds_iff, wordAddress]
  obtain rfl | rfl := sized <;> omega

/-- The words that a write holds of an element whole are those the statement names (R5). -/
theorem wholeRecord_iff {v : Window} {size j e : Nat} {addr : Addr} {words : List WriteWord}
    (sized : size = 16 ∨ size = 32) (base : v.base % size = 0) (limit : v.base + size * v.count ≤ 16777216)
    (aligned : addr.toNat % 4 = 0) (hj : j < words.length) (element : v.element size (addr.toNat + 4 * j) = some e)
    (last : (addr.toNat + 4 * j - v.base) % size + 4 = size ∨ j + 1 = words.length) (ds : List Word) :
    v.wholeRecord size addr words e = some ds ↔ WholeAt v.base size addr words j ds := by
  have positions := positions_eq sized base limit aligned hj element last
  have low : v.base ≤ addr.toNat + 4 * j := by
    rw [Window.element_eq_some_iff, Window.holds_iff] at element
    exact element.1.1
  simp only [Window.wholeRecord, positions, List.length_range', WholeAt]
  generalize hx : (addr.toNat + 4 * j - v.base) % size = x at *
  have aligned4 : x % 4 = 0 := by obtain rfl | rfl := sized <;> omega
  have small : x < size := by rw [← hx]; exact Nat.mod_lt _ (by omega)
  generalize hn : j + 1 - (j - x / 4) = n
  have start : j - x / 4 = j + 1 - n := by omega
  by_cases whole : n * 4 = size
  · rw [if_pos whole, fullWords_range'_iff, start]
    constructor
    · rintro ⟨rfl, same⟩
      exact ⟨by omega, by omega, by omega, same⟩
    · rintro ⟨ends, length, fits, same⟩
      obtain rfl : ds.length = n := by omega
      exact ⟨rfl, same⟩
  · rw [if_neg whole]
    simp only [reduceCtorEq, false_iff]
    rintro ⟨ends, length, fits, -⟩
    omega

/-! ### The marks -/

/-- A record is known by its words and its element index. -/
theorem IntakeRecord.eq_of_words {r q : IntakeRecord} (words : r.words = q.words)
    (index : r.elementIndex = q.elementIndex) : r = q := by
  cases r with
  | receive i w0 w1 w2 w3 =>
    cases q with
    | receive i' v0 v1 v2 v3 => simp_all [IntakeRecord.words, IntakeRecord.elementIndex]
    | spectral i' d => exact absurd (congrArg List.length words) (by simp [IntakeRecord.words, Words8.toList])
    | partly => cases index
  | spectral i d =>
    cases q with
    | receive i' v0 v1 v2 v3 => exact absurd (congrArg List.length words) (by simp [IntakeRecord.words, Words8.toList])
    | spectral i' d' =>
      have record : d = d' := congrArg Words8.ofList words
      simp_all [IntakeRecord.elementIndex]
    | partly => cases index
  | partly =>
    cases q with
    | receive i' v0 v1 v2 v3 => cases index
    | spectral i' d' => cases index
    | partly => rfl

/-- The mark of a word is one and only one. -/
theorem eq_of_markIs {base size j : Nat} {addr : Addr} {words : List WriteWord} {m q : Option IntakeRecord}
    (hm : MarkIs base size addr words j m) (hq : MarkIs base size addr words j q) : m = q := by
  unfold MarkIs at hm hq
  split at hm
  next last =>
    rw [if_pos last] at hq
    obtain ⟨r, rfl, whole, part⟩ := hm
    obtain ⟨r', rfl, whole', part'⟩ := hq
    by_cases h : ∃ ds, WholeAt base size addr words j ds
    · obtain ⟨ds, hds⟩ := h
      obtain ⟨words1, index1⟩ := whole ds hds
      obtain ⟨words2, index2⟩ := whole' ds hds
      rw [IntakeRecord.eq_of_words (words1.trans words2.symm) (index1.trans index2.symm)]
    · rw [not_exists] at h
      rw [part h, part' h]
  next more =>
    rw [if_neg more] at hq
    rw [hm, hq]

/-- The places of records: elements of the RX ring, and those of the spectral area elsewhere (R5). -/
theorem recordAt_rx_iff (w : Windows) (a e : Nat) : w.recordAt a = some (true, e) ↔ w.rx.element 16 a = some e := by
  unfold Windows.recordAt receiveSize
  cases w.rx.element 16 a <;> cases w.spectral.element spectralSize a <;> simp

theorem recordAt_spectral_iff (w : Windows) (a e : Nat) :
    w.recordAt a = some (false, e) ↔ w.rx.element 16 a = none ∧ w.spectral.element 32 a = some e := by
  unfold Windows.recordAt receiveSize spectralSize
  cases w.rx.element 16 a <;> cases w.spectral.element 32 a <;> simp

/-- What is cut out of a write for an element is what the statement asks of its mark. -/
theorem cutRecord_rx {w : Windows} {addr : Addr} {words : List WriteWord} {j e base : Nat}
    (whole : ∀ ds, w.rx.wholeRecord 16 addr words e = some ds ↔ WholeAt base 16 addr words j ds) :
    (∀ ds, WholeAt base 16 addr words j ds → (w.cutRecord addr words (true, e)).words = ds ∧
      (w.cutRecord addr words (true, e)).elementIndex = some e) ∧
    ((∀ ds, ¬ WholeAt base 16 addr words j ds) → w.cutRecord addr words (true, e) = .partly) := by
  refine ⟨fun ds hds => ?_, fun part => ?_⟩
  · have length : ds.length = 4 := by
      obtain ⟨-, length, -⟩ := hds
      omega
    match ds, length with
    | [w0, w1, w2, w3], _ =>
      have cut := (whole _).2 hds
      simp [Windows.cutRecord, receiveSize, cut, IntakeRecord.words, IntakeRecord.elementIndex]
  · have none' : w.rx.wholeRecord receiveSize addr words e = none := by
      rw [Option.eq_none_iff_forall_ne_some]
      exact fun ds hds => part ds ((whole ds).1 hds)
    simp [Windows.cutRecord, none']

theorem cutRecord_spectral {w : Windows} {addr : Addr} {words : List WriteWord} {j e base : Nat}
    (whole : ∀ ds, w.spectral.wholeRecord 32 addr words e = some ds ↔ WholeAt base 32 addr words j ds) :
    (∀ ds, WholeAt base 32 addr words j ds → (w.cutRecord addr words (false, e)).words = ds ∧
      (w.cutRecord addr words (false, e)).elementIndex = some e) ∧
    ((∀ ds, ¬ WholeAt base 32 addr words j ds) → w.cutRecord addr words (false, e) = .partly) := by
  refine ⟨fun ds hds => ?_, fun part => ?_⟩
  · have length : ds.length = 8 := by
      obtain ⟨-, length, -⟩ := hds
      omega
    have cut : w.spectral.wholeRecord spectralSize addr words e = some ds := (whole _).2 hds
    simp [Windows.cutRecord, cut, IntakeRecord.words, IntakeRecord.elementIndex, toList_ofList length]
  · have none' : w.spectral.wholeRecord spectralSize addr words e = none := by
      rw [Option.eq_none_iff_forall_ne_some]
      exact fun ds hds => part ds ((whole ds).1 hds)
    simp [Windows.cutRecord, none']

/-- The mark that the model gives a word of an element, when the word behind it is of the same element unless that ends. -/
theorem markIs_recordMark {w : Windows} {addr : Addr} {words : List WriteWord} {j e base size : Nat} {place : Bool}
    (here : w.recordAt (addr.toNat + 4 * j) = some (place, e)) (index : (addr.toNat + 4 * j - base) / size = e)
    (hj : j < words.length)
    (next : w.recordAt (addr.toNat + 4 * j + 4) = some (place, e) ↔ (addr.toNat + 4 * j - base) % size + 4 ≠ size)
    (cut : (addr.toNat + 4 * j - base) % size + 4 = size ∨ j + 1 = words.length →
      (∀ ds, WholeAt base size addr words j ds → (w.cutRecord addr words (place, e)).words = ds ∧
        (w.cutRecord addr words (place, e)).elementIndex = some e) ∧
      ((∀ ds, ¬ WholeAt base size addr words j ds) → w.cutRecord addr words (place, e) = .partly)) :
    MarkIs base size addr words j (w.recordMark addr words j) := by
  have after : wordAddress addr (j + 1) = addr.toNat + 4 * j + 4 := by unfold wordAddress; omega
  have before : wordAddress addr j = addr.toNat + 4 * j := rfl
  unfold MarkIs Windows.recordMark
  simp only [before, here, after, next]
  split
  next last =>
    rw [if_neg (by omega)]
    obtain ⟨whole, part⟩ := cut last
    exact ⟨_, rfl, fun ds hds => by rw [index]; exact whole ds hds, part⟩
  next more =>
    rw [if_pos (by omega)]

/-- The model's marks are those the statement asks for, with legal windows and an aligned address (section 1.1). -/
theorem recordMarks_recordMark {w : Windows} (legal : w.Legal) {addr : Addr} (aligned : addr.toNat % 4 = 0)
    (words : List WriteWord) : RecordMarks w addr words (w.recordMark addr words) := by
  obtain ⟨-, rxBase, spectralBase, -, -, -, -, -, -, -, -, rxEnd, spectralEnd, -, apart⟩ := legal
  have apart : ∀ a, ¬ (w.rx.holds 16 a = true ∧ w.spectral.holds 32 a = true) := fun a =>
    ((count_true_le_one_iff _ _ _ _).1 (apart a)).2.1.1
  intro j hj
  have aligned4 : (addr.toNat + 4 * j) % 4 = 0 := by omega
  refine ⟨fun holds => ?_, fun holds => ?_, fun noRx noSpectral => ?_⟩
  · have element : w.rx.element 16 (addr.toNat + 4 * j) = some ((addr.toNat + 4 * j - w.rx.base) / 16) :=
      (Window.element_eq_some_iff ..).2 ⟨holds, rfl⟩
    refine markIs_recordMark (place := true) ((recordAt_rx_iff ..).2 element) rfl hj ?_ fun last => ?_
    · rw [recordAt_rx_iff]
      exact element_next_iff (.inl rfl) rxBase rxEnd aligned4 element
    · exact cutRecord_rx fun ds => wholeRecord_iff (.inl rfl) rxBase rxEnd aligned hj element last ds
  · have element : w.spectral.element 32 (addr.toNat + 4 * j) = some ((addr.toNat + 4 * j - w.spectral.base) / 32) :=
      (Window.element_eq_some_iff ..).2 ⟨holds, rfl⟩
    have notRx : ∀ a, w.spectral.holds 32 a = true → w.rx.element 16 a = none := fun a ha =>
      Window.element_of_outside (by simpa [ha] using apart a)
    refine markIs_recordMark (place := false) ((recordAt_spectral_iff ..).2 ⟨notRx _ holds, element⟩) rfl hj ?_ fun last => ?_
    · rw [recordAt_spectral_iff, ← element_next_iff (.inr rfl) spectralBase spectralEnd aligned4 element, and_iff_right_iff_imp]
      exact fun next => notRx _ ((Window.element_eq_some_iff ..).1 next).1
    · exact cutRecord_spectral fun ds => wholeRecord_iff (.inr rfl) spectralBase spectralEnd aligned hj element last ds
  · have nowhere : w.recordAt (wordAddress addr j) = none := by
      have rx := Window.element_of_outside noRx
      have spectral := Window.element_of_outside noSpectral
      simp [Windows.recordAt, receiveSize, spectralSize, wordAddress, rx, spectral]
    simp [Windows.recordMark, nowhere]

/-- The marks of a write are uniquely those the statement asks for. -/
theorem markRecords_eq {w : Windows} (legal : w.Legal) {addr : Addr} (aligned : addr.toNat % 4 = 0)
    {words : List WriteWord} {mark : Nat → Option IntakeRecord} (marks : RecordMarks w addr words mark) :
    markRecords w addr words = ((List.range words.length).map mark).zip words := by
  have same : ∀ j, j < words.length → w.recordMark addr words j = mark j := by
    intro j hj
    obtain ⟨rx, spectral, nowhere⟩ := marks j hj
    obtain ⟨rx', spectral', nowhere'⟩ := recordMarks_recordMark legal aligned words j hj
    by_cases inRx : w.rx.holds 16 (addr.toNat + 4 * j) = true
    · exact eq_of_markIs (rx' inRx) (rx inRx)
    · by_cases inSpectral : w.spectral.holds 32 (addr.toNat + 4 * j) = true
      · exact eq_of_markIs (spectral' inSpectral) (spectral inSpectral)
      · rw [Bool.not_eq_true] at inRx inSpectral
        rw [nowhere inRx inSpectral, nowhere' inRx inSpectral]
  rw [markRecords, List.map_congr_left fun j hj => same j (List.mem_range.1 hj)]

/-! ### Spectral records (R51, R52) -/

/-- A span code of neither 20 nor 40, or a duration of 0, makes a spectral record malformed. -/
theorem spectralEntry_malformed {d : Words8} (h : (d.w1.extractLsb' 0 16).toNat = 0 ∨
    ((d.w1.extractLsb' 24 8).toNat ≠ 20 ∧ (d.w1.extractLsb' 24 8).toNat ≠ 40)) : spectralEntry d = none := by
  unfold spectralEntry
  split
  next => rfl
  next span some' =>
    obtain zero | ⟨no20, no40⟩ := h
    · exact if_pos zero
    · have : widthOfNumber (field d.w1 24 8) = none := by
        rw [widthOfNumber, field, if_neg no20, if_neg no40]
      rw [this] at some'
      cases some'

/-- The entry of a spectral record (R51). -/
theorem spectralEntry_of_span {d : Words8} {sp : Width}
    (span : (sp, (d.w1.extractLsb' 24 8).toNat) ∈ [(Width.mhz20, 20), (.mhz40, 40)])
    (long : 1 ≤ (d.w1.extractLsb' 0 16).toNat) : spectralEntry d = some
      { start := d.w0, duration := (d.w1.extractLsb' 0 16).toNat, channel := (d.w1.extractLsb' 16 8).toNat, span := sp
        report0 := { level := (d.w2.extractLsb' 0 8).toInt, busy := (d.w2.extractLsb' 8 8).toNat }
        report1 := { level := (d.w2.extractLsb' 16 8).toInt, busy := (d.w2.extractLsb' 24 8).toNat }
        report2 := { level := (d.w3.extractLsb' 0 8).toInt, busy := (d.w3.extractLsb' 8 8).toNat }
        report3 := { level := (d.w3.extractLsb' 16 8).toInt, busy := (d.w3.extractLsb' 24 8).toNat }
        sequence := (d.w7.extractLsb' 0 16).toNat } := by
  have width : widthOfNumber (field d.w1 24 8) = some sp := by
    unfold field
    simp only [List.mem_cons, Prod.mk.injEq, List.not_mem_nil, or_false] at span
    obtain ⟨rfl, h⟩ | ⟨rfl, h⟩ := span <;> rw [h] <;> rfl
  have positive : ¬ field d.w1 0 16 = 0 := by
    unfold field
    omega
  simp only [spectralEntry, width]
  rw [if_neg positive]
  rfl

theorem State.arriveRecord_spectral {s : State} {arrival : Time} {index : Nat} {d : Words8} {x : SpectralEntry}
    (h : spectralEntry d = some x) : s.arriveRecord arrival (.spectral index d) = s.arrive (.spectral x) := by
  simp [State.arriveRecord, h]

/-- What is done besides the write when a spectral record arrives. -/
theorem spectral_arrives {s u : State} {x : SpectralEntry} {bus' : Classifier} (h : u = s.arrive (.spectral x))
    (room : s.intake.fifo.length < 8) (processor : s.intake.fold ≠ none ∨ s.intake.fifo = []) {t : State}
    (ht : t = ({ u with bus := bus' } : State).driveLines) :
    t.intake.fifo = s.intake.fifo ++ [{ body := .spectral x, voidMap := false, voidNeighbour := false }] ∧
      (s.intake.fold ≠ none → t.intake.fold = s.intake.fold) ∧
      (s.intake.fold = none → ∃ a, t.intake.fifo = [a] ∧ FoldBegun a [] [] s t) ∧
      t.intake.lastSequence = s.intake.lastSequence ∧ OnlyIn [.intake, .bus, .report] s t ∧ Reported [] [] s t := by
  obtain ⟨fifo, sequence⟩ := State.arrive_entries room (.spectral x)
  rw [← h] at fifo sequence
  subst ht
  refine ⟨fifo, fun folding => (record_joins h room folding).1, ?_⟩
  by_cases idle : s.intake.fold = none
  · have empty := processor.resolve_left fun folding => folding idle
    obtain ⟨air', r, begun, -, plain⟩ := State.arrive_idle idle empty (.spectral x)
    obtain ⟨rfl, rfl⟩ := plain fun y hy => by cases hy
    rw [h, begun]
    have reported := Reported.refl s
    refine ⟨fun _ => ⟨_, rfl, rfl, fun y hy => (by cases hy), fun _ => ⟨rfl, (reported.congr rfl rfl).driveLines⟩⟩, rfl,
      OnlyIn.driveLines (by simp [onlyIn_iff]) (by simp), (reported.congr rfl rfl).driveLines⟩
  · obtain ⟨-, only, reported⟩ := record_joins (bus' := bus') h room idle
    exact ⟨fun h => absurd h idle, sequence, only, reported⟩

/-- Settles O16: the marks of the write, and each record by its kind. -/
theorem spectralRecordIsTakenIn : Obligations.SpectralRecordIsTakenIn := by
  refine ⟨fun s w addr words mark k idle observing hw legal mode aligned marks hk before marked => ?_,
    fun s addr index d arrival f a plain later next => ⟨_, exec_nextRecord next, rfl, fun malformed => ?_,
      fun sp span long => ?_⟩,
    fun s addr arrival f a plain later next => ⟨_, exec_nextRecord next, rfl, record_counts rfl⟩,
    fun s addr words idle unobserved => ?_⟩
  · have taken := (takeTransfer_write (tag := .rxDma) (addr := addr) (words := words) idle observing).trans
      (takeRxWrite_marks hw mode)
    rw [markRecords_eq legal aligned marks, sendPlain_marks (.records s.air.airTime) hk before marked] at taken
    exact changesBus (congrArg (fun u : State => Host.Outcome.next u.driveLines) taken)
  · refine record_counts ?_
    simp [State.arriveRecord, spectralEntry_malformed malformed]
  · have arrives := State.arriveRecord_spectral (s := s) (arrival := arrival) (index := index) (spectralEntry_of_span span long)
    refine ⟨fun full => record_dropped arrives full, fun room processor => ?_⟩
    obtain ⟨fifo, fold, begun, sequence, only, reported⟩ := spectral_arrives arrives room processor rfl
    exact ⟨⟨_, rfl, fifo⟩, fold, begun, sequence, only, reported⟩
  · have taken : s.takeTransfer (.write .rxDma addr words) = s.forward (forwardedWrite .rxDma addr words) := by
      by_cases observing : s.bus.observing = true
      · refine (takeTransfer_write idle observing).trans ?_
        obtain mode | none' := unobserved
        · simp [State.takeWrite, State.takeRxWrite, State.observesWrites, mode]
        · simp [State.takeWrite, State.takeRxWrite, none']
      · exact takeTransfer_unobserved idle (by simpa using observing)
    exact passed_write (congrArg (fun u : State => Host.Outcome.next u.driveLines) taken)

end Sys2Proof.Machine
end

section
/-! Every write leaves the M-port as it arrived (O11): the words of a write that stays in service wait, and follow one marked word at
a time. -/

namespace Sys2Proof.Machine

/-- Every list of marked words begins with plain ones, which may be none, up to its first marked word. -/
theorem exists_plain {μ : Type} (l : List (Option μ × WriteWord)) : ∃ (plain : List WriteWord) (later : List (Option μ × WriteWord)),
    l = plain.map (fun x => (none, x)) ++ later ∧ ∀ x, later.head? = some x → x.1 ≠ none := by
  induction l with
  | nil => exact ⟨[], [], rfl, by simp⟩
  | cons p l ih =>
    obtain ⟨mark, a⟩ := p
    cases mark with
    | none =>
      obtain ⟨plain, later, rfl, first⟩ := ih
      exact ⟨a :: plain, later, rfl, first⟩
    | some i => exact ⟨[], (some i, a) :: l, rfl, by rintro x ⟨⟩; simp⟩

/-- A write that went to memory as it arrived, but for the words that stay in service. -/
def Carried (tag : Tag) (addr : Addr) (words sent : List WriteWord) (s t : State) : Prop :=
  t.bus.uPort = [] ∧
    t.bus.mPort = some { write := true, tag := tag, addr := addr, length := words.length, words := sent } ∧
    (t.bus.service = none → sent = words) ∧
    (t.bus.service ≠ none → s.bus.observing = true ∧ s.policy.mode ≠ .unconfigured ∧ s.bus.windows ≠ none ∧
      ((tag = .txDma ∧ ∃ i a rest, t.bus.service = some (.completions ((some i, a) :: rest)) ∧
          words = sent ++ a :: rest.map Prod.snd) ∨
        (tag = .rxDma ∧ ∃ r a rest, t.bus.service = some (.records s.air.airTime ((some r, a) :: rest)) ∧
          words = sent ++ a :: rest.map Prod.snd)))

/-- A write forwarded whole, with whatever the blocks then did. -/
theorem carried_whole {tag : Tag} {addr : Addr} {words : List WriteWord} {s u : State} (idle : s.bus.service = none)
    (port : (u.bus.service, u.bus.mPort, u.bus.uPort) = (s.bus.service, some (forwardedWrite tag addr words), [])) :
    Carried tag addr words words s u := by
  obtain ⟨service, mPort, uPort⟩ : u.bus.service = s.bus.service ∧ u.bus.mPort = some (forwardedWrite tag addr words) ∧
    u.bus.uPort = [] := by simpa using port
  exact ⟨uPort, mPort, fun _ => rfl, fun h => absurd (service.trans idle) h⟩

/-- A write cut before its first marked word: what is sent, and what stays in service. -/
theorem sendPlain_forward {μ : Type} (s : State) (tag : Tag) (addr : Addr) {words : List WriteWord}
    (kept : List (Option μ × WriteWord) → Service) {l : List (Option μ × WriteWord)} (all : l.map Prod.snd = words) :
    ∃ (sent : List WriteWord) (later : List (Option μ × WriteWord)), words = sent ++ later.map Prod.snd ∧
      (∀ x, later.head? = some x → x.1 ≠ none) ∧
      (s.forward { forwardedWrite tag addr words with words := [] }).sendPlain kept l = { s with bus := { s.bus with
        uPort := []
        mPort := some { write := true, tag := tag, addr := addr, length := words.length, words := sent }
        service := if later = [] then none else some (kept later) } } := by
  obtain ⟨plain, later, rfl, first⟩ := exists_plain l
  refine ⟨plain, later, ?_, first, ?_⟩
  · rw [← all]
    simp [Function.comp_def]
  · rw [State.sendPlain_split _ kept plain later first]
    simp [State.send, State.forward, forwardedWrite]

/-- The first of the words that stay in service is marked. -/
theorem exists_marked {μ : Type} {later : List (Option μ × WriteWord)} (some' : later ≠ [])
    (first : ∀ x, later.head? = some x → x.1 ≠ none) : ∃ i a rest, later = (some i, a) :: rest := by
  cases later with
  | nil => exact absurd rfl some'
  | cons x rest =>
    obtain ⟨mark, a⟩ := x
    obtain ⟨i, rfl⟩ := Option.ne_none_iff_exists'.1 (first _ rfl)
    exact ⟨i, a, rest, rfl⟩

theorem carried_txWrite {s : State} {addr : Addr} {words : List WriteWord} (idle : s.bus.service = none)
    (observing : s.bus.observing = true) : ∃ sent, Carried .txDma addr words sent s (s.takeTxWrite addr words) := by
  unfold State.takeTxWrite
  split
  next w hw observed =>
    obtain ⟨sent, later, split, first, forwarded⟩ := sendPlain_forward s .txDma addr (words := words) .completions
      (l := markCandidates w addr words) (by simp [markCandidates, Function.comp_def, List.map_snd_zip])
    rw [forwarded]
    refine ⟨sent, rfl, rfl, fun done => ?_, fun stays => ⟨observing, ?_, by simp [hw], .inl ⟨rfl, ?_⟩⟩⟩
    · have none' : later = [] := by simpa using done
      rw [split, none', List.map_nil, List.append_nil]
    · simpa [State.observesWrites] using observed
    · have some' : later ≠ [] := by simpa using stays
      obtain ⟨i, a, rest, rfl⟩ := exists_marked some' first
      exact ⟨i, a, rest, by simp, split⟩
  · exact ⟨words, carried_whole idle rfl⟩

theorem carried_rxWrite {s : State} {addr : Addr} {words : List WriteWord} (idle : s.bus.service = none)
    (observing : s.bus.observing = true) : ∃ sent, Carried .rxDma addr words sent s (s.takeRxWrite addr words) := by
  unfold State.takeRxWrite
  split
  next w hw observed =>
    obtain ⟨sent, later, split, first, forwarded⟩ := sendPlain_forward s .rxDma addr (words := words)
      (.records s.air.airTime) (l := markRecords w addr words) (by simp [markRecords, List.map_snd_zip])
    rw [forwarded]
    refine ⟨sent, rfl, rfl, fun done => ?_, fun stays => ⟨observing, ?_, by simp [hw], .inr ⟨rfl, ?_⟩⟩⟩
    · have none' : later = [] := by simpa using done
      rw [split, none', List.map_nil, List.append_nil]
    · simpa [State.observesWrites] using observed
    · have some' : later ≠ [] := by simpa using stays
      obtain ⟨r, a, rest, rfl⟩ := exists_marked some' first
      exact ⟨r, a, rest, by simp, split⟩
  · exact ⟨words, carried_whole idle rfl⟩

/-- A judgement of a record changes no port, and no more of the Classifier than the windows. -/
theorem judgeRecord_bus (s : State) (w : Words8) : ∃ windows, (s.judgeRecord w).bus = { s.bus with windows := windows } := by
  unfold State.judgeRecord
  split
  · unfold State.judgeWindows
    split
    · exact ⟨s.bus.windows, rfl⟩
    · exact ⟨some w.windowsCarried, rfl⟩
  · obtain ⟨_, _, _, _, _, _, h⟩ := s.judgeRadio_touches w
    exact ⟨s.bus.windows, by rw [h]⟩
  · obtain ⟨_, _, h⟩ := s.judgeRates_touches w 3 0
    exact ⟨s.bus.windows, by rw [h]⟩
  · obtain ⟨_, _, h⟩ := s.judgeRates_touches w 4 8
    exact ⟨s.bus.windows, by rw [h]⟩
  · obtain ⟨_, _, _, _, _, h⟩ := s.judgeMains_touches w
    exact ⟨s.bus.windows, by rw [h]⟩
  · obtain ⟨_, _, _, h⟩ := s.judgeMap_touches w
    exact ⟨s.bus.windows, by rw [h]⟩
  · obtain ⟨_, _, _, h⟩ := s.judgeNeighbour_touches w
    exact ⟨s.bus.windows, by rw [h]⟩
  · obtain ⟨_, _, h⟩ := s.judgeShaping_touches w
    exact ⟨s.bus.windows, by rw [h]⟩
  · obtain ⟨_, _, _, h⟩ := s.judgeKeepalive_touches w
    exact ⟨s.bus.windows, by rw [h]⟩
  · exact ⟨s.bus.windows, rfl⟩
  · obtain ⟨_, _, _, _, _, h⟩ := s.judgeClear_touches w
    exact ⟨s.bus.windows, by rw [h]⟩
  · exact ⟨none, rfl⟩
  · exact ⟨s.bus.windows, rfl⟩

theorem checkRecord_bus (s : State) (w : Words8) : ∃ windows, (s.checkRecord w).bus = { s.bus with windows := windows } := by
  by_cases sum : w.sum = 0#32
  · rw [checkRecord_of_sum sum]
    exact judgeRecord_bus s w
  · rw [checkRecord_of_sum_ne sum]
    exact ⟨s.bus.windows, rfl⟩

/-- Taking a write, by the course it runs. -/
theorem carried_write {s : State} (idle : s.bus.service = none) (tag : Tag) (addr : Addr) (words : List WriteWord) :
    ∃ sent, Carried tag addr words sent s (s.takeTransfer (.write tag addr words)) := by
  have course := taking s (.write tag addr words)
  generalize s.takeTransfer (.write tag addr words) = u at course
  cases course with
  | refused busy => exact absurd idle busy
  | passed => exact ⟨words, carried_whole idle rfl⟩
  | txWrite _ observing => exact carried_txWrite idle observing
  | rxWrite _ observing => exact carried_rxWrite idle observing
  | otherWrite => exact ⟨words, carried_whole idle rfl⟩
  | cpuWrite =>
    obtain ⟨_, _, h⟩ := (s.forward (forwardedWrite .cpu addr words)).abandonments_touches addr words.length
    rw [h]
    exact ⟨words, carried_whole idle rfl⟩
  | @record _ w =>
    obtain ⟨windows, h⟩ := checkRecord_bus (s.carried addr w) w
    exact ⟨w.toWrite, carried_whole idle (by rw [h]; rfl)⟩

/-! ### The words that follow -/

/-- The words up to the next marked one, and those from there on. -/
theorem take_drop_plain {μ : Type} (p : Option μ × WriteWord) (plain : List WriteWord) (later : List (Option μ × WriteWord)) :
    (p :: (plain.map (fun x => (none, x)) ++ later)).take (plain.length + 1) = p :: plain.map (fun x => (none, x)) ∧
      (p :: (plain.map (fun x => (none, x)) ++ later)).drop (plain.length + 1) = later := by
  simp

/-- A coded word keeps its byte enables and its bits 23:0, and differs only where the enable of byte 3 is set (R10). -/
theorem codedWord_keeps (a : WriteWord) (code : BitVec 8) : (codedWord a code).enables = a.enables ∧
    (codedWord a code).data.extractLsb' 0 24 = a.data.extractLsb' 0 24 ∧
    ((codedWord a code).data ≠ a.data → a.enables.getLsbD 3 = true) := by
  rw [codedWord_eq]
  by_cases enabled : a.enables.getLsbD 3 = true
  · rw [if_pos enabled]
    exact ⟨rfl, BitVec.extractLsb'_append_eq_right, fun _ => enabled⟩
  · rw [if_neg enabled]
    exact ⟨rfl, rfl, fun h => absurd rfl h⟩

/-- Settles O11: the taking of a write, and the words that follow with each record or completion. -/
theorem writesReachMemoryAsTheyArrived : Obligations.WritesReachMemoryAsTheyArrived := by
  refine ⟨fun s tag addr words idle => ?_, fun s addr f arrival left service port some' => ?_,
    fun s addr f left service port some' => ?_⟩
  · obtain ⟨sent, uPort, mPort, whole, stays⟩ := carried_write idle tag addr words
    exact ⟨_, sent, rfl, uPort, mPort, whole, stays⟩
  · match left, some' with
    | (none, a) :: rest, _ =>
      have same : s.nextRecord = s := by simp [State.nextRecord, service]
      refine ⟨_, 0, congrArg (fun u : State => Host.Outcome.next u.driveLines) same, ?_, ?_⟩
      · show s.bus = _
        simp [← service, ← port]
      · rintro ⟨r, b, rest', h⟩
        simp at h
    | (some r, a) :: rest, _ =>
      obtain ⟨plain, later, rfl, first⟩ := exists_plain rest
      have next : NextRecord r arrival f a plain later s := ⟨service, port, first⟩
      obtain ⟨front, back⟩ := take_drop_plain (some r, a) plain later
      refine ⟨_, plain.length + 1, exec_nextRecord next, ?_, fun _ => ⟨by omega, ?_⟩⟩
      · rw [front, back]
        simp [Function.comp_def]
      · rw [back]
        exact first
  · match left, some' with
    | (none, a) :: rest, _ =>
      have same : s.nextCompletion = s := by simp [State.nextCompletion, service]
      refine ⟨_, [], (none, a) :: rest, congrArg (fun u : State => Host.Outcome.next u.driveLines) same, rfl, ?_, rfl, by simp,
        service, ?_, fun j b c _ hc => by simp at hc⟩
      · exact port.trans (by simp)
      · rintro ⟨i, b, rest', h⟩
        simp at h
    | (some i, a) :: rest, _ =>
      obtain ⟨plain, later, rfl, first⟩ := exists_plain rest
      obtain ⟨-, back⟩ := take_drop_plain (some i, a) plain later
      refine ⟨_, codedWord a (s.completionCode i) :: plain, later, congrArg (fun u : State => Host.Outcome.next u.driveLines)
        (State.nextCompletion_eq service port first), rfl, rfl, back, by simp; omega, rfl, fun _ => ⟨by simp, first⟩,
        fun j b c hb hc => ?_⟩
      cases j with
      | zero =>
        obtain rfl : (some i, a) = b := by simpa using hb
        obtain rfl : codedWord a (s.completionCode i) = c := by simpa using hc
        obtain ⟨enables, low, differs⟩ := codedWord_keeps a (s.completionCode i)
        exact ⟨enables, low, fun h => ⟨rfl, by simp, differs h⟩⟩
      | succ j =>
        have plainWord : plain[j]? = some c := by simpa using hc
        obtain ⟨short, rfl⟩ := List.getElem?_eq_some_iff.1 plainWord
        obtain rfl : (none, plain[j]) = b := by simpa [List.getElem?_append, short] using hb
        exact ⟨rfl, rfl, fun h => absurd rfl h⟩

end Sys2Proof.Machine
end

section
/-! The microsecond (O7): what AIR_TIME_ADVANCE still owes is what the commands of the expiries do one after the other. -/

namespace Sys2Proof.Machine

/-! ### Operations that do not read the lines -/

/-- The state with its output lines at other levels. -/
def State.withLines (s : State) (attn winHigh : Bool) : State :=
  { s with report := { s.report with attn := attn, winHigh := winHigh } }

theorem withLines_driveLines (s : State) (attn winHigh : Bool) : (s.withLines attn winHigh).driveLines = s.driveLines := rfl

theorem driveLines_eq_withLines (s : State) : s.driveLines = s.withLines (attnCondition s.report) s.winLevel := rfl

/-- An operation that neither reads nor drives the lines. -/
def LineBlind (f : State → State) : Prop := ∀ s attn winHigh, f (s.withLines attn winHigh) = (f s).withLines attn winHigh

/-- Driving the lines before such an operation makes no difference after it. -/
theorem LineBlind.driveLines {f : State → State} (h : LineBlind f) (s : State) : (f s.driveLines).driveLines = (f s).driveLines := by
  rw [driveLines_eq_withLines s, h, withLines_driveLines]

theorem takeTick_lineBlind : LineBlind State.takeTick := by
  intro s attn winHigh
  have decrease : ∀ u : State, (u.withLines attn winHigh).decreaseKeepalive = u.decreaseKeepalive.withLines attn winHigh := by
    intro u
    have policy : (u.withLines attn winHigh).policy = u.policy := rfl
    unfold State.decreaseKeepalive
    rw [policy]
    cases u.policy.mode with
    | active =>
      by_cases low : u.policy.keepaliveCounter ≤ 1
      · simp only [if_pos low]
        rfl
      · simp only [if_neg low]
        rfl
    | _ => rfl
  unfold State.takeTick
  by_cases due : s.air.tickDue = true
  · rw [if_pos due, if_pos (by exact due)]
    exact decrease { s with air.tickDue := false }
  · rw [if_neg due, if_neg (by exact due)]

theorem takeCoastExpiry_lineBlind : LineBlind State.takeCoastExpiry := by
  intro s attn winHigh
  have due : (s.withLines attn winHigh).trackerExpiryDue = s.trackerExpiryDue := rfl
  unfold State.takeCoastExpiry
  rw [due]
  dsimp only [State.withLines]
  split
  · by_cases coasts : s.tracker.coastCount + 1 ≤ s.tracker.coastLimit
    · simp only [if_pos coasts]
      exact if_pos coasts
    · simp only [if_neg coasts]
      exact if_neg coasts
  · rfl

theorem takeLockExpiry_lineBlind : LineBlind State.takeLockExpiry := by
  intro s attn winHigh
  have due : (s.withLines attn winHigh).trackerExpiryDue = s.trackerExpiryDue := rfl
  unfold State.takeLockExpiry
  rw [due]
  dsimp only [State.withLines]
  split <;> rfl

theorem takeStale_lineBlind (i : Nat) : LineBlind fun s => s.takeStale i := by
  intro s attn winHigh
  have found : (s.withLines attn winHigh).findEntry i = s.findEntry i := rfl
  simp only [State.takeStale, found]
  cases s.findEntry i with
  | none => rfl
  | some e =>
    by_cases due : e.due s.air.airTime = true
    · simp only [State.withLines, if_pos due]
      exact if_pos due
    · simp only [State.withLines, if_neg due]
      exact if_neg due

theorem takeMiss_lineBlind (i : Fin 8) : LineBlind fun s => s.takeMiss i := by
  intro s attn winHigh
  have slots : (s.withLines attn winHigh).schedule = s.schedule := rfl
  simp only [State.takeMiss, slots]
  cases s.schedule.slots[i] with
  | none => rfl
  | some e =>
    by_cases due : (reaches s.air.airTime e.expiry && !e.taken) = true
    · simp only [State.withLines, if_pos due]
      exact if_pos due
    · simp only [State.withLines, if_neg due]
      exact if_neg due

/-! ### Commands in a row -/

/-- A command with the operation it does. -/
def Does (c : Instr) (f : State → State) : Prop := (∀ s, exec c s = .next (f s).driveLines) ∧ LineBlind f

/-- Commands in a row do their operations in a row, and drive the lines at the end. -/
theorem ran_driveLines (l : List (Instr × (State → State))) (h : ∀ p ∈ l, Does p.1 p.2) (s : State) :
    Ran (l.map Prod.fst) s.driveLines (l.foldl (fun s p => p.2 s) s).driveLines := by
  induction l generalizing s with
  | nil => rfl
  | cons p l ih =>
    obtain ⟨does, blind⟩ := h p List.mem_cons_self
    refine ⟨(p.2 s).driveLines, ?_, ih (fun q hq => h q (List.mem_cons_of_mem _ hq)) (p.2 s)⟩
    rw [does, blind.driveLines]

theorem ran_of_does {c : Instr} {f : State → State} (first : Does c f) (l : List (Instr × (State → State)))
    (h : ∀ p ∈ l, Does p.1 p.2) (s : State) :
    Ran (c :: l.map Prod.fst) s (l.foldl (fun s p => p.2 s) (f s)).driveLines :=
  ⟨(f s).driveLines, first.1 s, ran_driveLines l h (f s)⟩

/-! ### What the microsecond owes -/

/-- Of the two expiries of the tracker only one can act: its lock state lets the other not (R38, R39). -/
theorem takeLockExpiry_takeCoastExpiry (s : State) : s.takeCoastExpiry.takeLockExpiry = s.takeTrackerExpiry := by
  have unlocked : ∀ u : State, u.tracker.lockState ≠ .locked → u.takeLockExpiry = u := by
    intro u hu
    unfold State.takeLockExpiry
    split
    next locked _ _ _ => exact absurd locked hu
    · rfl
  have uncoasting : ∀ u : State, u.tracker.lockState ≠ .coasting → u.takeCoastExpiry = u := by
    intro u hu
    unfold State.takeCoastExpiry
    split
    next coasting _ _ _ => exact absurd coasting hu
    · rfl
  have still : s.tracker.lockState = .coasting → s.takeCoastExpiry.tracker.lockState ≠ .locked := by
    intro coasting
    unfold State.takeCoastExpiry
    split
    · split
      · simp [Tracker.coastStep, State.referenceEvents]
      · simp [Tracker.loseLock]
    · simp [coasting]
  unfold State.takeTrackerExpiry
  split
  next locked => rw [uncoasting s (by simp [locked])]
  next coasting => rw [unlocked _ (still coasting)]
  next other notCoasting =>
    rw [uncoasting s notCoasting, unlocked s other]

/-- The commands of the expiries with what they do, after the tick's (log entry 4). -/
def owed (entries : List PendingEntry) : List (Instr × (State → State)) :=
  (.coastExpiry, State.takeCoastExpiry) :: (.lockExpiry, State.takeLockExpiry) ::
    (entries.map fun e => (Instr.staleExpiry e.index, fun s : State => s.takeStale e.index)) ++
    (List.finRange 8).map fun i => (Instr.missExpiry i, fun s : State => s.takeMiss i)

theorem owed_does (entries : List PendingEntry) : ∀ p ∈ owed entries, Does p.1 p.2 := by
  intro p hp
  simp only [owed, List.cons_append, List.mem_cons, List.mem_append, List.mem_map] at hp
  obtain rfl | rfl | ⟨e, -, rfl⟩ | ⟨i, -, rfl⟩ := hp
  · exact ⟨fun _ => rfl, takeCoastExpiry_lineBlind⟩
  · exact ⟨fun _ => rfl, takeLockExpiry_lineBlind⟩
  · exact ⟨fun _ => rfl, takeStale_lineBlind e.index⟩
  · exact ⟨fun _ => rfl, takeMiss_lineBlind i⟩

theorem owed_commands (entries : List PendingEntry) : (owed entries).map Prod.fst =
    .coastExpiry :: .lockExpiry :: entries.map (fun e => .staleExpiry e.index) ++ (List.finRange 8).map .missExpiry := by
  simp [owed, Function.comp_def]

/-- The tick and the tracker's expiry leave the pending transmit list alone. -/
theorem takeTick_takeTrackerExpiry_rewriter (s : State) : s.takeTick.takeTrackerExpiry.rewriter = s.rewriter := by
  obtain ⟨_, _, _, tracker⟩ := s.takeTick.takeTrackerExpiry_touches
  obtain ⟨_, _, _, tick⟩ := s.takeTick_touches
  rw [tracker, tick]

/-- What the commands do in a row is what the microsecond owes. -/
theorem foldl_owed (s : State) : (owed s.rewriter.entries).foldl (fun s p => p.2 s) s.takeTick = s.settle := by
  simp only [owed, List.cons_append, List.foldl_cons, List.foldl_append, List.foldl_map, takeLockExpiry_takeCoastExpiry,
    State.settle, State.takeMisses, State.takeStales, takeTick_takeTrackerExpiry_rewriter]

/-- The commands of what is owed lead to the state that AIR_TIME_ADVANCE settles. -/
theorem ran_settle (s : State) : Ran (.tenMillisecondTick :: .coastExpiry :: .lockExpiry ::
    s.rewriter.entries.map (fun e => .staleExpiry e.index) ++ (List.finRange 8).map .missExpiry) s s.settle.driveLines := by
  have ran := ran_of_does (c := .tenMillisecondTick) ⟨fun _ => rfl, takeTick_lineBlind⟩ (owed s.rewriter.entries)
    (owed_does s.rewriter.entries) s
  rwa [owed_commands, foldl_owed] at ran

/-! ### The microsecond itself -/

/-- Settling takes the tick, and changes nothing else of the Air Time Unit. -/
theorem settle_air (s : State) : s.settle.air = { s.air with tickDue := false } := by
  have tick : s.takeTick.air = { s.air with tickDue := false } := by
    unfold State.takeTick
    split
    · obtain ⟨_, _, h⟩ := State.decreaseKeepalive_touches { s with air.tickDue := false }
      rw [h]
    next notDue =>
      rw [Bool.not_eq_true] at notDue
      rw [← notDue]
  obtain ⟨_, _, _, tracker⟩ := s.takeTick.takeTrackerExpiry_touches
  obtain ⟨_, _, stales⟩ := s.takeTick.takeTrackerExpiry.takeStales_touches
  obtain ⟨_, misses⟩ := s.takeTick.takeTrackerExpiry.takeStales.takeMisses_touches
  rw [State.settle, misses, stales, tracker]
  exact tick

theorem settle_bus (s : State) : s.settle.bus = s.bus := by
  obtain ⟨_, _, _, _, _, _, _, h⟩ := s.settle_touches
  rw [h]

/-- With nothing due, nothing is owed. -/
theorem settle_of_nothingDue {s : State} (h : NothingDue s) : s.settle = s := by
  obtain ⟨noTick, noTracker, noMiss, noStale⟩ := h
  have tick : s.takeTick = s := by simp [State.takeTick, noTick]
  have notReached : s.trackerExpiryDue = false := by
    unfold State.trackerExpiryDue
    split
    next t ht => simpa [reaches] using noTracker t ht
    · rfl
  have tracker : s.takeTrackerExpiry = s := by
    rw [← takeLockExpiry_takeCoastExpiry]
    simp [State.takeLockExpiry, State.takeCoastExpiry, notReached]
  have stale : ∀ i, s.takeStale i = s := fun i => by
    unfold State.takeStale
    split
    next e found =>
      have listed := (find_index_eq_some found).1
      have notDue : e.due s.air.airTime = false := by simpa [PendingEntry.due, reaches] using noStale e listed
      simp [notDue]
    · rfl
  have miss : ∀ i, s.takeMiss i = s := fun i => by
    unfold State.takeMiss
    split
    next e slot =>
      obtain taken | later := noMiss i e slot
      · simp [taken]
      · have : reaches s.air.airTime e.expiry = false := by simpa [reaches] using later
        simp [this]
    · rfl
  rw [State.settle, tick, tracker, State.takeStales, List.foldl_fixed' stale, State.takeMisses, List.foldl_fixed' miss]

/-- AIR_TIME_ADVANCE with RESET released. -/
theorem exec_airTimeAdvance {s : State} (released : s.bus.resetAsserted = false) :
    exec .airTimeAdvance s = .next s.settle.advance.driveLines := by
  have done : s.tickMicrosecond = s.settle.advance := by simp [State.tickMicrosecond, released]
  exact congrArg (fun u : State => Host.Outcome.next u.driveLines) done

/-- The advance changes the Air Time Unit and the observation of transfers alone. -/
theorem advance_frame (s : State) : OnlyIn [.air, .bus, .report] s s.advance.driveLines ∧
    Reported [] [] s s.advance.driveLines := by
  have reported := ((Reported.refl s).congr (t' := s.advance) rfl (State.advance_report s)).driveLines
  refine ⟨OnlyIn.driveLines ((onlyIn_iff _ _ _).2 ?_) (by simp), reported⟩
  simp

/-- What changed is told from a state with its lines driven as from the state before. -/
theorem OnlyIn.afterDriven {changed : List Block} {s t : State} (h : OnlyIn changed s t) (report : .report ∈ changed) :
    OnlyIn changed s.driveLines t := by
  refine ⟨h.1, fun b hb => ?_⟩
  have kept := h.2 b hb
  cases b with
  | report => exact absurd report hb
  | _ => exact kept

/-- Settles O7: the release, the held reset, what is owed, and the microsecond. -/
theorem releaseAndTheMicrosecond : Obligations.ReleaseAndTheMicrosecond := by
  refine ⟨fun s => changesBus (s := s) rfl, fun s held => ?_, fun s released => ?_, fun s released => ?_⟩
  · have still : s.tickMicrosecond = s := by simp [State.tickMicrosecond, held]
    exact changesNothing (congrArg (fun u : State => Host.Outcome.next u.driveLines) still)
  · obtain ⟨only, reported⟩ := advance_frame s.settle
    exact ⟨_, _, ran_settle s, exec_airTimeAdvance released, only.afterDriven (by simp), reported.afterDriven⟩
  · refine ⟨_, exec_airTimeAdvance released, ?_⟩
    have air := settle_air s
    have bus := settle_bus s
    have due := settle_of_nothingDue (s := s)
    generalize s.settle = u at air bus due
    refine ⟨?_, ?_, ?_, ?_, ?_, ?_, fun h => ?_⟩
    · show u.air.airTime + 1#32 = _
      rw [air]
    · show u.air.offset = _
      rw [air]
    · show u.air.aligned = _
      rw [air]
    · show u.air.outlierRun = _
      rw [air]
    · show ((u.air.airTime + 1#32).toNat % 10000 == 0) = true ↔ _
      rw [air, beq_iff_eq]
    · show { u.bus with observing := true } = _
      rw [bus]
    · rw [due h]
      exact advance_frame s

end Sys2Proof.Machine
end

section
/-! The Air Time Unit (O8 to O10): the tick and the keep-alive, and the samples of the offset. -/

namespace Sys2Proof.Machine

/-! ### The tick -/

/-- A tick that is raised is taken, and the keep-alive counter decreases (R20, R158). -/
theorem State.takeTick_raised {s : State} (raised : s.air.tickDue = true) :
    s.takeTick = ({ s with air := { s.air with tickDue := false } } : State).decreaseKeepalive :=
  if_pos raised

theorem State.decreaseKeepalive_counting {s : State} (mode : s.policy.mode = .active)
    (counting : 2 ≤ s.policy.keepaliveCounter) : s.decreaseKeepalive =
      { s with policy := { s.policy with keepaliveCounter := s.policy.keepaliveCounter - 1 } } := by
  have above : ¬ s.policy.keepaliveCounter ≤ 1 := by omega
  simp [State.decreaseKeepalive, mode, above]

theorem State.decreaseKeepalive_expiring {s : State} (mode : s.policy.mode = .active)
    (last : s.policy.keepaliveCounter = 1) : s.decreaseKeepalive = s.expireKeepalive := by
  simp [State.decreaseKeepalive, mode, last]

theorem State.decreaseKeepalive_inactive {s : State} (mode : s.policy.mode ≠ .active) : s.decreaseKeepalive = s := by
  unfold State.decreaseKeepalive
  split
  · exact absurd ‹_› mode
  · rfl
  · rfl

theorem State.expireKeepalive_reported (s : State) :
    Reported [.keepaliveExpired] [.keepaliveExpired] s s.expireKeepalive :=
  (((Reported.refl s).congr rfl rfl).setFlag (t := { s with policy.mode := .standby, policy.keepaliveCounter := 0 })
    .keepaliveExpired).count (by simp)

/-- Settles O8: a raised tick by the mode and the counter; KEEPALIVE_EXPIRY is the tick that expires. -/
theorem tickRunsTheKeepalive : Obligations.TickRunsTheKeepalive := by
  intro s raised
  have taken := State.takeTick_raised raised
  have ticks : exec .tenMillisecondTick s = .next s.takeTick.driveLines := rfl
  refine ⟨fun mode counting => ?_, fun mode last c hc => ?_, fun mode => ?_⟩
  · rw [taken, State.decreaseKeepalive_counting (by exact mode) (by exact counting)] at ticks
    exact ⟨_, ticks, rfl, rfl, OnlyIn.driveLines (by simp [onlyIn_iff]) (by simp),
      ((Reported.refl s).congr rfl rfl).driveLines⟩
  · have expires : exec c s = .next s.takeTick.driveLines := by
      obtain rfl | rfl := hc
      · exact ticks
      · simp [exec, execKeepaliveExpiry, answer, State.keepaliveDue, raised, mode, last]
    rw [taken, State.decreaseKeepalive_expiring (by exact mode) (by exact last)] at expires
    exact ⟨_, expires, rfl, rfl, OnlyIn.driveLines (by simp [onlyIn_iff]) (by simp),
      ((State.expireKeepalive_reported _).congr rfl rfl).driveLines⟩
  · rw [taken, State.decreaseKeepalive_inactive (by exact mode)] at ticks
    exact ⟨_, ticks, rfl, OnlyIn.driveLines (by simp [onlyIn_iff]) (by simp),
      ((Reported.refl s).congr rfl rfl).driveLines⟩

/-! ### Samples of the offset -/

/-- In UNALIGNED the first sample aligns (R23). -/
theorem State.takeSample_unaligned {s : State} (unaligned : s.air.aligned = false) (x : Word) :
    s.takeSample x = { s with air := { s.air with offset := x, aligned := true, outlierRun := 0 } } :=
  if_pos (by simp [unaligned])

/-- A sample in the window slews the offset (R24). -/
theorem State.takeSample_inWindow {s : State} {x : Word} (aligned : s.air.aligned = true)
    (low : -32 ≤ (x - s.air.offset).toInt) (high : (x - s.air.offset).toInt ≤ 32) :
    s.takeSample x = { s with air := { s.air with
      offset := s.air.offset + BitVec.ofInt 32 ((x - s.air.offset).toInt.tdiv 4), outlierRun := 0 } } := by
  have window : errorInWindow (sdiff x s.air.offset) = true := decide_eq_true ⟨low, high⟩
  rw [State.takeSample, if_neg (by simp [aligned]), if_pos window]
  rfl

/-- A sample outside the window is an outlier, and the fourth in a row steps the offset (R25). -/
theorem State.takeSample_outlier {s : State} {x : Word} (aligned : s.air.aligned = true)
    (out : (x - s.air.offset).toInt < -32 ∨ 32 < (x - s.air.offset).toInt) :
    s.takeSample x = if s.air.outlierRun < 3 then { s with air := { s.air with outlierRun := s.air.outlierRun + 1 } }
      else (({ s with air := { s.air with offset := x, outlierRun := 0 } } : State).setFlag .timeStepped).count .step := by
  have window : ¬ errorInWindow (sdiff x s.air.offset) = true := by
    intro inside
    obtain ⟨low, high⟩ := of_decide_eq_true inside
    unfold sdiff at low high
    omega
  rw [State.takeSample, if_neg (by simp [aligned]), if_neg window]
  simp only [Nat.add_lt_iff_lt_sub_right, Nat.reduceSub]

/-- The two courses of an outlier, as the statements write them. -/
theorem outlier_effect {s : State} {x : Word} (aligned : s.air.aligned = true)
    (out : (x - s.air.offset).toInt < -32 ∨ 32 < (x - s.air.offset).toInt) :
    (s.air.outlierRun < 3 → (s.takeSample x).air = { s.air with outlierRun := s.air.outlierRun + 1 } ∧
      OnlyIn [.air] s (s.takeSample x)) ∧
    (s.air.outlierRun = 3 → (s.takeSample x).air = { s.air with offset := x, outlierRun := 0 } ∧
      OnlyIn [.air, .report] s (s.takeSample x) ∧ Reported [.timeStepped] [.step] s (s.takeSample x)) := by
  have sampled := State.takeSample_outlier aligned out
  refine ⟨fun few => ?_, fun run => ?_⟩
  · rw [if_pos few] at sampled
    rw [sampled]
    exact ⟨rfl, by simp [onlyIn_iff]⟩
  · rw [if_neg (by omega)] at sampled
    have same : Reported [] [] s { s with air := { s.air with offset := x, outlierRun := 0 } } :=
      (Reported.refl s).congr rfl rfl
    rw [sampled]
    exact ⟨rfl, by simp [onlyIn_iff], (same.setFlag .timeStepped).count (by simp)⟩

/-- A sample leaves the part aligned (R23). -/
theorem State.takeSample_aligned (s : State) (x : Word) : (s.takeSample x).air.aligned = true := by
  unfold State.takeSample
  split
  · rfl
  next aligned =>
    have aligned : s.air.aligned = true := by simpa using aligned
    split
    · exact aligned
    · split <;> exact aligned

/-- The outlier run stays within 0..3 (R25). -/
theorem State.takeSample_outlierRun {s : State} (run : s.air.outlierRun ≤ 3) (x : Word) :
    (s.takeSample x).air.outlierRun ≤ 3 := by
  unfold State.takeSample
  split
  · exact Nat.zero_le 3
  · split
    · exact Nat.zero_le 3
    · split
      · show s.air.outlierRun + 1 ≤ 3
        omega
      · exact Nat.zero_le 3

/-- A quarter rounded toward 0 (section 3.4), by the linear inequalities that fix it. -/
theorem tdiv_four (a : Int) : (0 ≤ a → 0 ≤ a - 4 * a.tdiv 4 ∧ a - 4 * a.tdiv 4 ≤ 3) ∧
    (a ≤ 0 → -3 ≤ a - 4 * a.tdiv 4 ∧ a - 4 * a.tdiv 4 ≤ 0) := by
  rw [Int.tdiv_eq_ediv, show Int.sign 4 = 1 from rfl]
  split <;> omega

/-- How far a quarter of an error in the window moves the offset (R24). -/
theorem slew_bounds (o : Word) {err : Int} (low : -32 ≤ err) (high : err ≤ 32) :
    -8 ≤ (o + BitVec.ofInt 32 (err.tdiv 4) - o).toInt ∧ (o + BitVec.ofInt 32 (err.tdiv 4) - o).toInt ≤ 8 := by
  have moved : o + BitVec.ofInt 32 (err.tdiv 4) - o = BitVec.ofInt 32 (err.tdiv 4) := by
    rw [BitVec.add_comm, BitVec.add_sub_cancel]
  have rounded := tdiv_four err
  have quarter : -8 ≤ err.tdiv 4 ∧ err.tdiv 4 ≤ 8 := by omega
  have exact' : (BitVec.ofInt 32 (err.tdiv 4)).toInt = err.tdiv 4 := by
    rw [BitVec.toInt_ofInt, Int.bmod_eq_of_le] <;> omega
  rw [moved, exact']
  exact quarter

/-- No report word shows the outlier run (R25). -/
theorem reportWord_outlierRun (s : State) (n k : Nat) :
    State.reportWord { s with air := { s.air with outlierRun := n } } k = s.reportWord k := by
  unfold State.reportWord
  split <;> rfl

theorem clearFrame_bit (body : RecordBody) : (clearFrame 2 body).w2.getLsbD 2 = true := by
  simp [clearFrame]

/-- Settles O9: a sample by the window and the run; the step counter by pin reset, RESTART and CLEAR. -/
theorem inWindowSampleSlewsTheOffset : Obligations.InWindowSampleSlewsTheOffset := by
  refine ⟨fun s x aligned => ⟨fun low high => ?_, outlier_effect aligned, fun run => s.takeSample_outlierRun run x⟩,
    reportWord_outlierRun, fun s => ⟨_, rfl, counter_of_reset rfl _⟩,
    fun s addr body takes => ⟨fun sum => ?_, fun sum => ?_⟩⟩
  · obtain ⟨down, up⟩ := slew_bounds s.air.offset low high
    rw [State.takeSample_inWindow aligned low high]
    refine ⟨rfl, down, up, fun least most => ?_, by simp [onlyIn_iff]⟩
    have rounded := tdiv_four (x - s.air.offset).toInt
    have still : (x - s.air.offset).toInt.tdiv 4 = 0 := by omega
    show s.air.offset + BitVec.ofInt 32 ((x - s.air.offset).toInt.tdiv 4) = s.air.offset
    rw [still]
    exact BitVec.add_zero _
  · obtain ⟨-, -, -, -, restart⟩ := acknowledgeClearAndRestart
    obtain ⟨t, done, -, state⟩ := restart s addr body takes sum
    exact ⟨t, done, counter_of_reset (by rw [state]; rfl) _⟩
  · obtain ⟨t, done, -, -, -, -, -, -, -, -, -, -, counters⟩ := clear_effect takes
      (writesRecord_of_presented (c := .clearCounters addr body) rfl rfl) (kindCode_clearFrame 2 body) sum
    exact ⟨t, done, by rw [counters, if_pos (clearFrame_bit body)]⟩

/-! ### The sample at the start of a fold -/

/-- An IDLE processor begins the fold of the head: the sample first, then the values of the moment (R56). -/
theorem State.startFold_idle {s : State} {e : Entry} {more : List Entry} (idle : s.intake.fold = none)
    (fifo : s.intake.fifo = e :: more) : s.startFold = { s.sampleFor e with
      intake := { (s.sampleFor e).intake with fold := some (s.sampleFor e).begunFold } } := by
  simp [State.startFold, idle, fifo, State.begunFold]

/-- Settles O10: a sample in UNALIGNED, an outlier, and the sample of the entry whose fold begins. -/
theorem firstSampleAlignsAndOutliersStep : Obligations.FirstSampleAlignsAndOutliersStep := by
  refine ⟨fun s x unaligned => ?_, fun s x aligned out => outlier_effect aligned out, fun s e m n rest idle fifo => ?_⟩
  · rw [State.takeSample_unaligned unaligned]
    exact ⟨rfl, by simp [onlyIn_iff]⟩
  · rw [State.startFold_idle idle fifo]
    exact ⟨rfl, _, rfl, rfl, rfl, State.takeSample_aligned s _⟩

end Sys2Proof.Machine
end

section
/-! Small effects: a stale expiry (O29) and the expiries of the tracker (O45). -/

namespace Sys2Proof.Machine

/-- A command whose operation leaves the state as it was (log entry 3). -/
theorem changesNothing_of_eq {c : Instr} {s u : State} (h : exec c s = .next u.driveLines) (same : u = s) :
    ∃ t, exec c s = .next t ∧ OnlyIn [.report] s t ∧ Reported [] [] s t :=
  changesNothing (by rw [h, same])

/-! ### Stale expiries (R137) -/

theorem State.takeStale_due {s : State} {i : Nat} {e : PendingEntry}
    (found : s.rewriter.entries.find? (fun e => e.index == i) = some e) (due : 0 ≤ (s.air.airTime - e.expiry).toInt) :
    s.takeStale i = ({ s with rewriter := { s.rewriter with
      entries := s.rewriter.entries.filter fun e => e.index != i } } : State).count .stale := by
  have reached : e.due s.air.airTime = true := decide_eq_true due
  simp [State.takeStale, State.findEntry, found, reached, State.removeEntry]

theorem State.takeStale_notDue {s : State} {i : Nat}
    (notDue : ∀ e ∈ s.rewriter.entries, e.index = i → (s.air.airTime - e.expiry).toInt < 0) : s.takeStale i = s := by
  unfold State.takeStale
  split
  next e found =>
    obtain ⟨listed, index⟩ := find_index_eq_some found
    have later : ¬ e.due s.air.airTime = true := fun reached => by
      have before : (s.air.airTime - e.expiry).toInt < 0 := notDue e listed index
      have after : 0 ≤ (s.air.airTime - e.expiry).toInt := of_decide_eq_true reached
      omega
    exact if_neg later
  · rfl

/-- Settles O29: the entry for the index by whether Air Time has reached its expiry. -/
theorem staleExpiryRemovesTheEntry : Obligations.StaleExpiryRemovesTheEntry := by
  intro s i
  refine ⟨(s.takeStale i).driveLines, rfl, fun e found due => ?_, fun notDue => ?_⟩
  · rw [State.takeStale_due found due]
    exact ⟨rfl, OnlyIn.driveLines (by simp [onlyIn_iff]) (by simp),
      (((Reported.refl s).congr rfl rfl).count (by simp)).driveLines⟩
  · rw [State.takeStale_notDue notDue]
    exact ⟨OnlyIn.driveLines (by simp [onlyIn_iff]) (by simp), (Reported.refl s).driveLines⟩

/-! ### The lock and coast expiries (R38, R39) -/

theorem State.trackerExpiryDue_iff (s : State) : s.trackerExpiryDue = true ↔
    ∃ x, s.tracker.expiry = some x ∧ 0 ≤ (s.air.airTime - x).toInt := by
  unfold State.trackerExpiryDue
  split
  next x armed => simp [armed, reaches, sdiff]
  next disarmed => simp [disarmed]

/-- The role after a reference edge (R32), as the statements write it. -/
theorem EdgeMode.roleAfterReference_eq (m : EdgeMode) :
    m.roleAfterReference = if m = .both then .middle else .reference := by
  cases m <;> rfl

/-- A virtual reference edge at r + P (R38, R39), as the statements write it. -/
theorem Tracker.coastStep_eq (tr : Tracker) (r : Time) (p n : Nat) : tr.coastStep r p n = { tr with
    lockState := .coasting, ref := some (r + BitVec.ofNat 32 p), coastCount := n
    expiry := some (r + BitVec.ofNat 32 p + BitVec.ofNat 32 (p + p / 2))
    role := if tr.edgeMode = .both then .middle else .reference } := by
  rw [← EdgeMode.roleAfterReference_eq]
  rfl

/-- What a coasting step changes: the tracker, and the two requests it sends (R46). -/
theorem coastStep_effect (s : State) (r : Time) (p n : Nat) :
    let u := ({ s with tracker := s.tracker.coastStep r p n } : State).referenceEvents
    OnlyIn [.tracker, .map, .report] s u.driveLines ∧ Reported [] [] s u.driveLines ∧
      u.driveLines.tracker = { s.tracker with
        lockState := .coasting, ref := some (r + BitVec.ofNat 32 p), coastCount := n
        expiry := some (r + BitVec.ofNat 32 p + BitVec.ofNat 32 (p + p / 2))
        role := if s.tracker.edgeMode = .both then .middle else .reference } ∧
      u.driveLines.map = { s.map with requests := s.map.requests ++ [.age, .snapshot] } := by
  refine ⟨OnlyIn.driveLines (by simp [onlyIn_iff]) (by simp), ((Reported.refl s).congr rfl rfl).driveLines,
    Tracker.coastStep_eq .., ?_⟩
  simp [State.referenceEvents, State.sendMap]

section
variable {s : State} {r : Time} {p : Nat}

theorem State.takeLockExpiry_due (due : s.trackerExpiryDue = true) (ref : s.tracker.ref = some r)
    (period : s.tracker.period = some p) (locked : s.tracker.lockState = .locked) :
    s.takeLockExpiry = ({ s with tracker := s.tracker.coastStep r p 1 } : State).referenceEvents := by
  simp [State.takeLockExpiry, locked, due, ref, period]

theorem State.takeCoastExpiry_due (due : s.trackerExpiryDue = true) (ref : s.tracker.ref = some r)
    (period : s.tracker.period = some p) (coasting : s.tracker.lockState = .coasting) :
    s.takeCoastExpiry = if s.tracker.coastCount + 1 ≤ s.tracker.coastLimit then
        ({ s with tracker := s.tracker.coastStep r p (s.tracker.coastCount + 1) } : State).referenceEvents
      else { s.setFlag .lockLost with tracker := s.tracker.loseLock r p (s.tracker.coastCount + 1) } := by
  simp [State.takeCoastExpiry, coasting, due, ref, period]

end

/-- The lock expiry acts only in LOCKED, when it is due (log entry 3). -/
theorem State.takeLockExpiry_idle {s : State} (idle : s.tracker.lockState ≠ .locked ∨ s.trackerExpiryDue = false) :
    s.takeLockExpiry = s := by
  unfold State.takeLockExpiry
  split
  next locked due _ _ => simp [locked, due] at idle
  · rfl

/-- The coast expiry acts only in COASTING, when it is due (log entry 3). -/
theorem State.takeCoastExpiry_idle {s : State} (idle : s.tracker.lockState ≠ .coasting ∨ s.trackerExpiryDue = false) :
    s.takeCoastExpiry = s := by
  unfold State.takeCoastExpiry
  split
  next coasting due _ _ => simp [coasting, due] at idle
  · rfl

/-- Settles O45: the coast by the command and the coast limit; otherwise neither expiry acts. -/
theorem coastAndLoss : Obligations.CoastAndLoss := by
  refine ⟨fun s c n x r p armed reached ref period course => ?_, fun s c idle => ?_⟩
  · have due := s.trackerExpiryDue_iff.2 ⟨x, armed, reached⟩
    obtain ⟨rfl, locked, rfl⟩ | ⟨rfl, coasting, rfl⟩ := course
    · have done : exec .lockExpiry s = .next s.takeLockExpiry.driveLines := rfl
      rw [State.takeLockExpiry_due due ref period locked] at done
      exact ⟨_, done, fun _ => coastStep_effect s r p 1, fun other => by cases other⟩
    · refine ⟨s.takeCoastExpiry.driveLines, rfl, fun within => ?_, fun _ past => ?_⟩
      · rw [State.takeCoastExpiry_due due ref period coasting, if_pos (within.resolve_left (by simp))]
        exact coastStep_effect s r p _
      · rw [State.takeCoastExpiry_due due ref period coasting, if_neg (by omega)]
        exact ⟨OnlyIn.driveLines (by simp [onlyIn_iff]) (by simp),
          (((Reported.refl s).setFlag .lockLost).congr rfl rfl).driveLines, rfl⟩
  · have notDue : (∀ x, s.tracker.expiry = some x → (s.air.airTime - x).toInt < 0) → s.trackerExpiryDue = false := by
      intro later
      rw [← Bool.not_eq_true, s.trackerExpiryDue_iff]
      rintro ⟨x, armed, reached⟩
      have := later x armed
      omega
    obtain ⟨rfl, unlocked⟩ | ⟨rfl, uncoasting⟩ | ⟨rfl | rfl, later⟩ := idle
    · exact changesNothing_of_eq rfl (State.takeLockExpiry_idle (.inl unlocked))
    · exact changesNothing_of_eq rfl (State.takeCoastExpiry_idle (.inl uncoasting))
    · exact changesNothing_of_eq rfl (State.takeLockExpiry_idle (.inr (notDue later)))
    · exact changesNothing_of_eq rfl (State.takeCoastExpiry_idle (.inr (notDue later)))

end Sys2Proof.Machine
end

section
/-! Folds begin and end (R56): what the end of a fold does to the FIFO, to the fold behind it and to the Air Time Unit, in the words
of the statements. -/

namespace Sys2Proof.Machine

/-! ### What several operations change and report -/

/-- Changes of two operations in a row, among the blocks named. -/
theorem OnlyIn.trans {first second changed : List Block} {s u t : State} (h : OnlyIn first s u) (h' : OnlyIn second u t)
    (wide : first ⊆ changed) (wide' : second ⊆ changed) : OnlyIn changed s t := by
  refine ⟨h'.1.trans h.1, fun b hb => ?_⟩
  have kept := h.2 b fun member => hb (wide member)
  have kept' := h'.2 b fun member => hb (wide' member)
  cases b <;> exact Eq.trans kept' kept

/-- Reports of two operations in a row. -/
theorem Reported.trans {set set' : List Flag} {counted counted' : List Counter} {s u t : State}
    (first : Reported set counted s u) (second : Reported set' counted' u t) (distinct : ∀ c ∈ counted', c ∉ counted) :
    Reported (set ++ set') (counted ++ counted') s t := by
  obtain ⟨flags, enables, win, counters⟩ := first
  obtain ⟨flags', enables', win', counters'⟩ := second
  refine ⟨by rw [flags', flags, List.foldl_append], enables'.trans enables, win'.trans win, fun c => ?_⟩
  rw [counters', counters]
  by_cases late : c ∈ counted'
  · simp [late, distinct c late]
  · simp [late]

/-- Counters are reported in any order. -/
theorem Reported.reorder {set : List Flag} {counted counted' : List Counter} {s t : State} (h : Reported set counted s t)
    (perm : ∀ c, c ∈ counted' ↔ c ∈ counted) : Reported set counted' s t := by
  obtain ⟨flags, enables, win, counters⟩ := h
  exact ⟨flags, enables, win, fun c => by rw [counters, if_congr (perm c) rfl rfl]⟩

/-- A sample is told from an earlier state with the same Air Time Unit, and with what was reported on the way. -/
theorem SampleTaken.after {x : Word} {set : List Flag} {counted : List Counter} {s u t : State}
    (taken : SampleTaken x [] [] u t) (air : u.air = s.air) (reported : Reported set counted s u)
    (unstepped : .step ∉ counted) : SampleTaken x set counted s t := by
  have quiet : Reported [] [] u t → Reported set counted s t := fun h => by
    simpa using reported.trans h (by simp)
  obtain ⟨unaligned, aligned⟩ := taken
  rw [air] at unaligned aligned
  refine ⟨fun h => (unaligned h).imp id quiet, fun h err herr => ?_⟩
  obtain ⟨slew, outlier, step⟩ := aligned h err herr
  refine ⟨fun low high => (slew low high).imp quiet id, fun out few => (outlier out few).imp quiet id, fun out run => ?_⟩
  obtain ⟨stepped, offset⟩ := step out run
  exact ⟨reported.trans stepped (by simpa using unstepped), offset⟩

/-- A sample is told to a later state with the same Air Time Unit, flags and counters. -/
theorem SampleTaken.congr {x : Word} {set : List Flag} {counted : List Counter} {s t t' : State}
    (taken : SampleTaken x set counted s t) (air : t'.air = t.air)
    (reported : ∀ set counted, Reported set counted s t → Reported set counted s t') : SampleTaken x set counted s t' := by
  obtain ⟨unaligned, aligned⟩ := taken
  rw [← air] at unaligned aligned
  refine ⟨fun h => (unaligned h).imp id (reported _ _), fun h err herr => ?_⟩
  obtain ⟨slew, outlier, step⟩ := aligned h err herr
  exact ⟨fun low high => (slew low high).imp (reported _ _) id, fun out few => (outlier out few).imp (reported _ _) id,
    fun out run => (step out run).imp (reported _ _) id⟩

/-! ### The start of a fold -/

theorem State.sampleFor_tracker (s : State) (e : Entry) : (s.sampleFor e).tracker = s.tracker := by
  obtain ⟨_, _, h⟩ := s.sampleFor_touches e
  rw [h]

theorem State.sampleFor_policy (s : State) (e : Entry) : (s.sampleFor e).policy = s.policy := by
  obtain ⟨_, _, h⟩ := s.sampleFor_touches e
  rw [h]

theorem State.sampleFor_intake (s : State) (e : Entry) : (s.sampleFor e).intake = s.intake := by
  obtain ⟨_, _, h⟩ := s.sampleFor_touches e
  rw [h]

/-- An idle processor begins the fold of the head, told from a state `s` that has the blocks the fold reads, with what was reported
since then. -/
theorem foldBegun_startFold {s u : State} {e : Entry} {more : List Entry} {set : List Flag} {counted : List Counter}
    (idle : u.intake.fold = none) (fifo : u.intake.fifo = e :: more) (air : u.air = s.air) (tracker : u.tracker = s.tracker)
    (policy : u.policy = s.policy) (reported : Reported set counted s u) (unstepped : .step ∉ counted) :
    FoldBegun e set counted s u.startFold.driveLines := by
  rw [State.startFold_idle idle fifo]
  refine ⟨?_, fun r body => ?_, fun other => ?_⟩
  · simp only [State.driveLines_intake, State.driveLines_air, State.begunFold, State.foldContext, State.sampleFor_tracker,
      State.sampleFor_policy, tracker, policy]
  · have sampled : u.sampleFor e = u.takeSample (r.frameEnd - (r.arrival - BitVec.ofNat 32 s.policy.radio.latency)) := by
      rw [← policy]
      simp [State.sampleFor, body, ReceiveEntry.sample, earlier]
    rw [sampled]
    exact ((sampleTaken_takeSample u _).after air reported unstepped).congr rfl fun _ _ h => (h.congr rfl rfl).driveLines
  · have unsampled : u.sampleFor e = u := by
      unfold State.sampleFor
      split
      · exact absurd ‹_› (other _)
      · rfl
      · rfl
    rw [unsampled]
    exact ⟨air, (reported.congr rfl rfl).driveLines⟩

/-! ### The end of a fold -/

/-- The state once the entry has left the head, before the next fold begins. -/
def State.unheaded (s : State) : State :=
  { s with intake := { s.intake with fifo := s.intake.fifo.tail, fold := none } }

theorem State.endFold_eq (s : State) : s.endFold = s.unheaded.startFold := rfl

/-- The start of a fold writes the fold of Record Intake, the Air Time Unit and the Report Unit. -/
theorem State.startFold_writes (s : State) : ∃ air' fold' report', s.startFold =
    { s with air := air', intake := { s.intake with fold := fold' }, report := report' } := by
  unfold State.startFold
  split
  next e rest _ _ =>
    obtain ⟨_, _, h⟩ := s.sampleFor_touches e
    rw [h]
    exact ⟨_, _, _, rfl⟩
  · exact ⟨s.air, s.intake.fold, s.report, rfl⟩

theorem State.endFold_fifo (s : State) : s.endFold.intake.fifo = s.intake.fifo.tail := by
  obtain ⟨_, _, _, h⟩ := s.unheaded.startFold_writes
  rw [s.endFold_eq, h]
  rfl

theorem State.endFold_lastSequence (s : State) : s.endFold.intake.lastSequence = s.intake.lastSequence := by
  obtain ⟨_, _, _, h⟩ := s.unheaded.startFold_writes
  rw [s.endFold_eq, h]
  rfl

/-- The last entry of the FIFO leaves an IDLE processor. -/
theorem State.endFold_idle {s : State} (last : s.intake.fifo.tail = []) : s.endFold = s.unheaded := by
  rw [s.endFold_eq]
  exact State.startFold_of_empty last

/-- The end of a fold changes the Air Time Unit, Record Intake and the Report Unit. -/
theorem State.endFold_onlyIn (s : State) : OnlyIn [.air, .intake, .report] s s.endFold.driveLines := by
  obtain ⟨_, _, _, ends⟩ := s.endFold_touches
  refine OnlyIn.driveLines ?_ (by simp)
  rw [ends]
  simp [onlyIn_iff]

/-- The end of a fold at the end of an operation that has left alone what a new fold reads: with nothing behind the entry the
processor is IDLE, and otherwise the fold of the entry behind it begins. -/
theorem endFold_courses {s u : State} {set : List Flag} {counted : List Counter} (air : u.air = s.air)
    (tracker : u.tracker = s.tracker) (policy : u.policy = s.policy) (reported : Reported set counted s u)
    (unstepped : .step ∉ counted) :
    (u.intake.fifo.tail = [] → u.endFold.driveLines.intake.fold = none ∧ u.endFold.driveLines.air = s.air ∧
      Reported set counted s u.endFold.driveLines) ∧
    ∀ e more, u.intake.fifo.tail = e :: more → FoldBegun e set counted s u.endFold.driveLines := by
  refine ⟨fun last => ?_, fun e more behind => ?_⟩
  · rw [State.endFold_idle last]
    exact ⟨rfl, air, (reported.congr rfl rfl).driveLines⟩
  · exact foldBegun_startFold (u := u.unheaded) rfl behind air tracker policy (reported.congr rfl rfl) unstepped

/-- A fold that ends at once. -/
theorem foldEnded_endFold {s u : State} {counted : List Counter} {e : Entry} {rest : List Entry}
    (only : OnlyIn [.intake, .report] s u) (fifo : u.intake.fifo = e :: rest) (reported : Reported [] counted s u)
    (unstepped : .step ∉ counted) : FoldEnded counted rest s u.endFold.driveLines := by
  have behind : u.intake.fifo.tail = rest := by rw [fifo]; rfl
  obtain ⟨idle, begins⟩ := endFold_courses (only.2 .air (by simp)) (only.2 .tracker (by simp)) (only.2 .policy (by simp))
    reported unstepped
  rw [behind] at idle begins
  exact ⟨u.endFold_fifo.trans behind, only.trans u.endFold_onlyIn (by simp) (by simp), idle, begins⟩

/-- A request that was served ends the fold that waited for it, when one did. -/
theorem servedFor_endFoldIf {s u : State} {changed : List Block} {set : List Flag} {counted : List Counter}
    (only : OnlyIn changed s u) (air : .air ∉ changed) (intake : .intake ∉ changed) (tracker : .tracker ∉ changed)
    (policy : .policy ∉ changed) (report : .report ∈ changed) (reported : Reported set counted s u)
    (unstepped : .step ∉ counted) (forFold : Bool) :
    ServedFor forFold changed set counted s (u.endFoldIf forFold).driveLines := by
  have same : u.intake = s.intake := only.2 .intake intake
  refine ⟨?_, ?_⟩
  · rintro rfl
    exact ⟨only.driveLines report, reported.driveLines⟩
  · rintro rfl
    obtain ⟨idle, begins⟩ := endFold_courses (only.2 .air air) (only.2 .tracker tracker) (only.2 .policy policy)
      reported unstepped
    rw [same] at idle begins
    have fifo : u.endFold.intake.fifo = s.intake.fifo.tail := by rw [u.endFold_fifo, same]
    have sequence : u.endFold.intake.lastSequence = s.intake.lastSequence := by rw [u.endFold_lastSequence, same]
    refine ⟨only.trans u.endFold_onlyIn (fun b hb => by simp [hb]) (by simp [report]), fifo, sequence,
      fun short => idle ?_, fun a e more two => ?_⟩
    · exact List.eq_nil_of_length_eq_zero (by rw [List.length_tail]; omega)
    · exact begins e more (by rw [two]; rfl)

end Sys2Proof.Machine
end

section
/-! The three folds (O33 to O35): the entry in hand ends its fold with its counts, or hands on one request. -/

namespace Sys2Proof.Machine

/-! ### The entry in hand -/

section
variable {s : State} {f : Fold} {e : Entry} {rest : List Entry}

/-- A FOLDING processor begins no fold. -/
theorem FoldInHand.startFold (h : FoldInHand f e rest s) : s.startFold = s := by
  obtain ⟨fold, -, fifo⟩ := h
  simp [State.startFold, fold, fifo]

theorem FoldInHand.foldInHand (h : FoldInHand f e rest s) : s.foldInHand = some (f, e) := by
  obtain ⟨fold, waiting, fifo⟩ := h
  simp [State.foldInHand, fold, fifo, waiting]

/-- Only the head of the FIFO is folded. -/
theorem head_of_foldInHand (h : s.startFold.foldInHand = some (f, e)) : ∃ rest, s.intake.fifo = e :: rest := by
  obtain ⟨_, _, _, started⟩ := s.startFold_writes
  rw [started] at h
  unfold State.foldInHand at h
  split at h
  next g head rest _ fifo =>
    split at h
    · cases h
    · cases h
      exact ⟨rest, fifo⟩
  · cases h

end

/-- A fold in hand that ends at once, after an operation that has left the FIFO. -/
theorem FoldInHand.ended {s u : State} {f : Fold} {e : Entry} {rest : List Entry} (h : FoldInHand f e rest s)
    {counted : List Counter} (only : OnlyIn [.intake, .report] s u) (fifo : u.intake.fifo = s.intake.fifo)
    (reported : Reported [] counted s u) (unstepped : .step ∉ counted) : FoldEnded counted rest s u.endFold.driveLines :=
  foldEnded_endFold only (fifo.trans h.2.2) reported unstepped

/-- A fold in hand that ends at once with no count. -/
theorem FoldInHand.endedUncounted {s : State} {f : Fold} {e : Entry} {rest : List Entry} (h : FoldInHand f e rest s) :
    FoldEnded [] rest s s.endFold.driveLines :=
  h.ended (by simp [onlyIn_iff]) rfl (.refl s) (by simp)

/-- A fold in hand that ends at once with one count. -/
theorem FoldInHand.endedCounted {s : State} {f : Fold} {e : Entry} {rest : List Entry} (h : FoldInHand f e rest s)
    {c : Counter} (unstepped : c ≠ .step) : FoldEnded [c] rest s (s.count c).endFold.driveLines :=
  h.ended (by simp [onlyIn_iff]) rfl ((Reported.refl s).count (by simp)) (by simpa using unstepped.symm)

/-- A fold that hands its evidence to the Map. -/
theorem handedToMap_handToMap {s u : State} {counted : List Counter} (only : OnlyIn [.intake, .report] s u)
    (fifo : u.intake.fifo = s.intake.fifo) (reported : Reported [] counted s u) (f : Fold) (e : Evidence) :
    HandedToMap e counted f s (u.handToMap f e).driveLines := by
  have map : u.map = s.map := only.2 .map (by simp)
  have hands : OnlyIn [.intake, .map] u (u.handToMap f e) := by simp [onlyIn_iff]
  refine ⟨?_, fifo, rfl, (only.trans hands (by simp) (by simp)).driveLines (by simp), (reported.congr rfl rfl).driveLines⟩
  rw [← map]
  rfl

/-! ### Evidence -/

theorem uniformEvidence_stepIn (sp : Span) (set : SliceSet) (step : CellStep) {k : Nat} (slice : k < 4) :
    (uniformEvidence sp set step).stepIn k = if set.has k then some step else none := by
  match k, slice with
  | 0, _ => rfl
  | 1, _ => rfl
  | 2, _ => rfl
  | 3, _ => rfl

/-- The slices that an observation covers (R57). -/
theorem coverage_has_iff (observed operating : Width) (position : Secondary) {k : Nat} (slice : k < 4) :
    (coverage observed operating position).has k = true ↔
      observed = .mhz40 ∧ operating = .mhz40 ∨ InPrimaryPair position k := by
  have pair : (primaryPair position).has k = true ↔ InPrimaryPair position k := by
    cases position <;> simp [primaryPair, SliceSet.has, InPrimaryPair] <;> omega
  cases observed <;> cases operating <;> simp [coverage, pair]
  simp [SliceSet.has, slice]

theorem SliceSet.has_iff (set : SliceSet) {k : Nat} (slice : k < 4) :
    set.has k = true ↔ set = .all ∨ set = .low ∧ k < 2 ∨ set = .high ∧ 2 ≤ k := by
  cases set <;> simp [SliceSet.has, slice]

/-- Uniform evidence over an interval: unphased, or one request (R58). -/
theorem FoldInHand.giveEvidence {s : State} {f : Fold} {e : Entry} {rest : List Entry} (h : FoldInHand f e rest s)
    (a : Time) (n : Nat) (set : SliceSet) (step : CellStep) :
    (f.context.phase = none → FoldEnded [.unphasedEvidence] rest s (s.giveEvidence f a n set step).driveLines) ∧
    ∀ ph, f.context.phase = some ph →
      HandedToMap (uniformEvidence (ph.span a n) set step) [] f s (s.giveEvidence f a n set step).driveLines := by
  refine ⟨fun unphased => ?_, fun ph phase => ?_⟩
  · rw [State.giveEvidence, unphased]
    exact h.endedCounted (by simp)
  · rw [State.giveEvidence, phase]
    exact handedToMap_handToMap (by simp [onlyIn_iff]) rfl (.refl s) f _

theorem State.giveEvidence_lastSequence (s : State) (f : Fold) (a : Time) (n : Nat) (set : SliceSet) (step : CellStep) :
    (s.giveEvidence f a n set step).intake.lastSequence = s.intake.lastSequence := by
  unfold State.giveEvidence
  split
  · exact State.endFold_lastSequence _
  · rfl

/-! ### Completion entries (R63) -/

theorem exec_completionFold {s : State} {f : Fold} {x : CompletionEntry} {m n : Bool} {rest : List Entry}
    (h : FoldInHand f { body := .completion x, voidMap := m, voidNeighbour := n } rest s) :
    exec .completionFold s = .next (s.foldCompletion f x m).driveLines := by
  simp only [exec, execCompletionFold, h.startFold, h.foldInHand]
  rfl

theorem exec_completionFold_idle {s : State}
    (other : ∀ x m n rest, s.intake.fifo ≠ { body := .completion x, voidMap := m, voidNeighbour := n } :: rest) :
    exec .completionFold s = .next s.driveLines := by
  simp only [exec, execCompletionFold]
  split
  next hand =>
    obtain ⟨rest, fifo⟩ := head_of_foldInHand hand
    exact absurd fifo (other _ _ _ _)
  · rfl

/-- Settles O35: the fold ends at once without feedback or when void; otherwise it gives uniform evidence. -/
theorem completionFold : Obligations.CompletionFold := by
  refine ⟨fun s f x m n rest h => ⟨_, exec_completionFold h, ?_, fun off => ?_, fun on unvoid => ?_⟩,
    fun s other => changesNothing (exec_completionFold_idle other)⟩
  · show (s.foldCompletion f x m).intake.lastSequence = _
    unfold State.foldCompletion
    split
    · exact s.giveEvidence_lastSequence ..
    · exact s.endFold_lastSequence
  · have ends : s.foldCompletion f x m = s.endFold := if_neg (by simpa using fun on => off.resolve_left (by simp [on]))
    rw [ends]
    exact h.endedUncounted
  · have gives : s.foldCompletion f x m = s.giveEvidence f x.start x.airtime x.slices (x.outcome.step f.context.evidence) :=
      if_pos (by simp [on, unvoid])
    rw [gives]
    obtain ⟨unphased, handed⟩ := h.giveEvidence x.start x.airtime x.slices (x.outcome.step f.context.evidence)
    refine ⟨unphased, fun ph phase => ⟨_, handed ph phase, rfl, fun k slice covered hcovered => ?_⟩⟩
    have has := (x.slices.has_iff slice).trans hcovered.symm
    rw [uniformEvidence_stepIn _ _ _ slice]
    exact ⟨fun out => if_neg (mt has.1 out), fun within success => by rw [if_pos (has.2 within), success]; rfl,
      fun within failure => by rw [if_pos (has.2 within), failure]; rfl⟩

/-! ### Receive entries (R61, R62) -/

theorem exec_receiveFold {s : State} {f : Fold} {x : ReceiveEntry} {m n : Bool} {rest : List Entry}
    (h : FoldInHand f { body := .receive x, voidMap := m, voidNeighbour := n } rest s) :
    exec .receiveFold s = .next (s.foldReceive f x m n).driveLines := by
  simp only [exec, execReceiveFold, h.startFold, h.foldInHand]
  rfl

theorem exec_receiveFold_idle {s : State}
    (other : ∀ x m n rest, s.intake.fifo ≠ { body := .receive x, voidMap := m, voidNeighbour := n } :: rest) :
    exec .receiveFold s = .next s.driveLines := by
  simp only [exec, execReceiveFold]
  split
  next hand =>
    obtain ⟨rest, fifo⟩ := head_of_foldInHand hand
    exact absurd fifo (other _ _ _ _)
  · rfl

theorem State.foldReceive_evidence {x : ReceiveEntry} {f : Fold} {enabled : Bool} {step : CellStep}
    (gives : x.kind.evidence f.context.evidence = some (enabled, step)) (s : State) (m n : Bool) :
    s.foldReceive f x m n = s.foldFrameEvidence f x m enabled step := by
  unfold State.foldReceive
  rw [gives]

theorem State.foldReceive_beacon {x : ReceiveEntry} (kind : x.kind = .foreignBeacon) (s : State) (f : Fold) (m n : Bool) :
    s.foldReceive f x m n = if n then s.endFold else s.handToSchedule f (x.update f.context) := by
  unfold State.foldReceive
  rw [kind]
  rfl

theorem State.foldReceive_other {x : ReceiveEntry} (kind : x.kind = .foreignOther) (s : State) (f : Fold) (m n : Bool) :
    s.foldReceive f x m n = (s.count .foreignOther).endFold := by
  unfold State.foldReceive
  rw [kind]
  rfl

/-- The kinds that give map evidence, with their enables and steps, as the statement lists them (R62). -/
theorem evidence_of_kind {kind : FrameKind} {c : MapFields} {enabled : Bool} {step : CellStep}
    (gives : kind = .corrupted ∧ enabled = c.corruptedOn ∧ step = .rise c.riseCorrupt ∨
      (kind = .ownData ∨ kind = .ownOther) ∧ enabled = c.cleanOn ∧ step = .fall c.fallClean) :
    kind.evidence c = some (enabled, step) := by
  obtain ⟨rfl, rfl, rfl⟩ | ⟨rfl | rfl, rfl, rfl⟩ := gives <;> rfl

theorem State.foldFrameEvidence_lastSequence (s : State) (f : Fold) (x : ReceiveEntry) (m enabled : Bool) (step : CellStep) :
    (s.foldFrameEvidence f x m enabled step).intake.lastSequence = s.intake.lastSequence := by
  unfold State.foldFrameEvidence
  split
  · exact s.endFold_lastSequence
  · split
    · exact s.giveEvidence_lastSequence ..
    · exact s.endFold_lastSequence

theorem State.foldReceive_lastSequence (s : State) (f : Fold) (x : ReceiveEntry) (m n : Bool) :
    (s.foldReceive f x m n).intake.lastSequence = s.intake.lastSequence := by
  unfold State.foldReceive
  split
  · exact s.foldFrameEvidence_lastSequence ..
  · split
    · exact s.endFold_lastSequence
    · rfl
  · exact State.endFold_lastSequence _
  · exact s.endFold_lastSequence

/-- The map evidence of a received frame (R62), by its airtime, its enable and its void mark. -/
theorem State.foldFrameEvidence_eq (s : State) (f : Fold) (x : ReceiveEntry) (m enabled : Bool) (step : CellStep) :
    (x.airtime f.context = none ∨ enabled = false ∨ m = true → s.foldFrameEvidence f x m enabled step = s.endFold) ∧
    ∀ len, x.airtime f.context = some len → enabled = true → m = false → s.foldFrameEvidence f x m enabled step =
      s.giveEvidence f (x.frameEnd - f.context.offset - BitVec.ofNat 32 len) len
        (coverage x.width f.context.radio.width f.context.radio.secondary) step := by
  unfold State.foldFrameEvidence
  refine ⟨fun ends => ?_, fun len airtime on unvoid => ?_⟩
  · split
    · rfl
    next airtime => exact if_neg (by simpa using fun on => (ends.resolve_left (by simp [airtime])).resolve_left (by simp [on]))
  · rw [airtime]
    exact if_pos (by simp [on, unvoid])

/-- Settles O34: the fold of a received frame by its kind. -/
theorem receiveFold : Obligations.ReceiveFold := by
  refine ⟨fun s f x m n rest a h ha => ⟨_, exec_receiveFold h, s.foldReceive_lastSequence f x m n, fun kind => ?_,
    fun kind => ⟨fun void => ?_, fun unvoid => ?_⟩, fun enabled step gives => ?_⟩,
    fun s other => changesNothing (exec_receiveFold_idle other)⟩
  · rw [State.foldReceive_other kind]
    exact h.endedCounted (by simp)
  · rw [State.foldReceive_beacon kind, if_pos void]
    exact h.endedUncounted
  · rw [State.foldReceive_beacon kind, if_neg (by simp [unvoid])]
    refine ⟨x.update f.context, ?_, rfl, rfl, OnlyIn.driveLines ?_ (by simp), ((Reported.refl s).congr rfl rfl).driveLines⟩
    · subst ha
      rfl
    · simp [onlyIn_iff]
  · have airtime : x.airtime f.context = a := ha.symm
    obtain ⟨ends, evidence⟩ := s.foldFrameEvidence_eq f x m enabled step
    rw [airtime] at ends evidence
    rw [State.foldReceive_evidence (evidence_of_kind gives)]
    refine ⟨fun none' => ?_, fun len hlen on unvoid => ?_⟩
    · rw [ends none']
      exact h.endedUncounted
    · rw [evidence len hlen on unvoid]
      obtain ⟨unphased, handed⟩ := h.giveEvidence (x.frameEnd - f.context.offset - BitVec.ofNat 32 len) len
        (coverage x.width f.context.radio.width f.context.radio.secondary) step
      refine ⟨unphased, fun ph phase => ⟨_, handed ph phase, rfl, fun k covered slice hcovered => ?_⟩⟩
      have has := (coverage_has_iff x.width f.context.radio.width f.context.radio.secondary slice).trans hcovered.symm
      rw [uniformEvidence_stepIn _ _ _ slice]
      exact ⟨fun within => if_pos (has.2 within), fun out => if_neg (mt has.1 out)⟩

/-! ### Spectral entries (R59, R60) -/

theorem exec_spectralFold {s : State} {f : Fold} {x : SpectralEntry} {m n : Bool} {rest : List Entry}
    (h : FoldInHand f { body := .spectral x, voidMap := m, voidNeighbour := n } rest s) :
    exec .spectralFold s = .next ((s.compareSequence x.sequence).foldSweep f x m).driveLines := by
  simp only [exec, execSpectralFold, h.startFold, h.foldInHand]
  rfl

theorem exec_spectralFold_idle {s : State}
    (other : ∀ x m n rest, s.intake.fifo ≠ { body := .spectral x, voidMap := m, voidNeighbour := n } :: rest) :
    exec .spectralFold s = .next s.driveLines := by
  simp only [exec, execSpectralFold]
  split
  next hand =>
    obtain ⟨rest, fifo⟩ := head_of_foldInHand hand
    exact absurd fifo (other _ _ _ _)
  · rfl

/-- The sequence comparison (R60): the last sequence, and a gap counted when there is one. -/
theorem State.compareSequence_effect (s : State) (sequence : Nat) {gap : List Counter}
    (hgap : gap = (match s.intake.lastSequence with
      | some last => if sequence = (last + 1) % 65536 then [] else [.spectralGap]
      | none => [])) :
    OnlyIn [.intake, .report] s (s.compareSequence sequence) ∧
      (s.compareSequence sequence).intake = { s.intake with lastSequence := some sequence } ∧
      Reported [] gap s (s.compareSequence sequence) := by
  have same : Reported [] [] s { s with intake := { s.intake with lastSequence := some sequence } } :=
    (Reported.refl s).congr rfl rfl
  cases last : s.intake.lastSequence with
  | none =>
    have compared : s.compareSequence sequence = { s with intake := { s.intake with lastSequence := some sequence } } := by
      simp [State.compareSequence, last]
    rw [last] at hgap
    rw [compared, hgap]
    exact ⟨by simp [onlyIn_iff], rfl, same⟩
  | some n =>
    have compared : s.compareSequence sequence = if sequence = (n + 1) % 65536 then
          { s with intake := { s.intake with lastSequence := some sequence } }
        else ({ s with intake := { s.intake with lastSequence := some sequence } } : State).count .spectralGap := by
      simp [State.compareSequence, last]
    rw [last] at hgap
    rw [compared, hgap]
    by_cases next : sequence = (n + 1) % 65536
    · simp only [if_pos next]
      exact ⟨by simp [onlyIn_iff], trivial, same⟩
    · simp only [if_neg next]
      exact ⟨by simp [onlyIn_iff], rfl, same.count (by simp)⟩

theorem SpectralEntry.offChannel_iff (x : SpectralEntry) (r : RadioFields) :
    x.offChannel r = true ↔ r.channel ≠ some x.channel ∨ x.span = .mhz40 ∧ r.width = .mhz20 := by
  simp [SpectralEntry.offChannel]

theorem State.foldSweep_lastSequence (s : State) (f : Fold) (x : SpectralEntry) (m : Bool) :
    (s.foldSweep f x m).intake.lastSequence = s.intake.lastSequence := by
  unfold State.foldSweep
  split
  · exact s.endFold_lastSequence
  · split
    · exact State.endFold_lastSequence _
    · split
      · exact State.endFold_lastSequence _
      · split
        · exact State.endFold_lastSequence _
        · rfl

/-- A sweep in UNALIGNED or without phase (R59). -/
theorem State.foldSweep_unphased {f : Fold} {x : SpectralEntry} (s : State) (on : ¬ x.offChannel f.context.radio = true)
    (unphased : f.context.aligned = false ∨ f.context.phase = none) :
    s.foldSweep f x false = (s.count .unphasedEvidence).endFold := by
  rw [State.foldSweep, if_neg (by simp), if_neg on]
  cases aligned : f.context.aligned with
  | false => rfl
  | true => simp [unphased.resolve_left (by simp [aligned])]

theorem State.foldSweep_evidence {f : Fold} {x : SpectralEntry} (s : State) (on : ¬ x.offChannel f.context.radio = true)
    (aligned : f.context.aligned = true) {ph : Phase} (phase : f.context.phase = some ph) : s.foldSweep f x false =
      s.handToMap f (sweepEvidence (ph.span (x.start - f.context.offset) x.duration) x f.context.evidence
        (coverage x.span f.context.radio.width f.context.radio.secondary)) := by
  rw [State.foldSweep, if_neg (by simp), if_neg on, if_neg (by simp [aligned]), phase]

/-- The step a slice's report calls for (R59). -/
theorem SliceReport.step_eq (r : SliceReport) (m : MapFields) : some (r.step m) =
    if m.hitLevel ≤ r.level ∧ m.busyMinimum ≤ r.busy then some (.rise m.riseScan) else some (.fall m.fallScan) := by
  by_cases hit : m.hitLevel ≤ r.level ∧ m.busyMinimum ≤ r.busy
  · simp [SliceReport.step, SliceReport.isHit, hit]
  · rw [if_neg hit]
    simp only [SliceReport.step, SliceReport.isHit, Bool.and_eq_true, decide_eq_true_eq, if_neg hit]

theorem sweepEvidence_span (sp : Span) (x : SpectralEntry) (m : MapFields) (set : SliceSet) :
    (sweepEvidence sp x m set).span = sp := by
  cases set <;> rfl

/-- The slice of each report of a sweep in coverage, and the step there (R57, R59). -/
theorem sweepEvidence_stepIn (sp : Span) {x : SpectralEntry} (m : MapFields) {width : Width} {position : Secondary}
    (covered : ¬ (x.span = .mhz40 ∧ width = .mhz20)) {k slice : Nat} {report : SliceReport}
    (listed : (k, report) ∈ [(0, x.report0), (1, x.report1), (2, x.report2), (3, x.report3)])
    (hslice : slice = if x.span = .mhz20 ∧ position = .below then (k + 2) % 4 else k) :
    (sweepEvidence sp x m (coverage x.span width position)).stepIn slice =
      if x.span = .mhz20 ∧ 2 ≤ k then none else some (report.step m) := by
  subst hslice
  cases span : x.span with
  | mhz40 =>
    have wide : width = .mhz40 := by
      cases width with
      | mhz20 => exact absurd ⟨span, rfl⟩ covered
      | mhz40 => rfl
    subst wide
    simp only [List.mem_cons, Prod.mk.injEq, List.not_mem_nil, or_false] at listed
    obtain ⟨rfl, rfl⟩ | ⟨rfl, rfl⟩ | ⟨rfl, rfl⟩ | ⟨rfl, rfl⟩ := listed <;> rfl
  | mhz20 =>
    have pair : coverage .mhz20 width position = primaryPair position := by cases width <;> rfl
    rw [pair]
    simp only [List.mem_cons, Prod.mk.injEq, List.not_mem_nil, or_false] at listed
    obtain ⟨rfl, rfl⟩ | ⟨rfl, rfl⟩ | ⟨rfl, rfl⟩ | ⟨rfl, rfl⟩ := listed <;> cases position <;> rfl

/-- Settles O33: the sequence is compared, and the sweep ends its fold with its count or hands on its evidence. -/
theorem spectralFold : Obligations.SpectralFold := by
  refine ⟨fun s f x m n rest gap h hgap => ?_, fun s other => changesNothing (exec_spectralFold_idle other)⟩
  obtain ⟨only, intake, reported⟩ := s.compareSequence_effect x.sequence hgap
  have done := exec_spectralFold h
  have fresh : ∀ c : Counter, c ≠ .spectralGap → c ∉ gap := by
    intro c hc
    rw [hgap]
    split
    · split <;> simp [hc]
    · simp
  have unstepped := fresh .step (by simp)
  generalize s.compareSequence x.sequence = u at only intake reported done
  have fifo : u.intake.fifo = s.intake.fifo := by rw [intake]
  have counted : ∀ c : Counter, c ≠ .spectralGap → c ≠ .step →
      FoldEnded (c :: gap) rest s (u.count c).endFold.driveLines := fun c other unstep =>
    h.ended (only.trans (second := [.report]) (by simp [onlyIn_iff]) (by simp) (by simp)) fifo
      ((reported.count (fresh c other)).reorder (by simp [or_comm])) (by simp [unstep.symm, unstepped])
  refine ⟨_, done, ?_, fun void => ?_, fun unvoid off hoff =>
    ⟨fun out => ?_, fun on unphased => ?_, fun on aligned ph phase => ?_⟩⟩
  · show (u.foldSweep f x m).intake.lastSequence = _
    rw [State.foldSweep_lastSequence, intake]
  · rw [State.foldSweep, if_pos void]
    exact h.ended only fifo reported unstepped
  · rw [State.foldSweep, if_neg (by simp [unvoid]), if_pos ((x.offChannel_iff _).2 (hoff.1 out))]
    exact counted .offChannel (by simp) (by simp)
  · subst unvoid
    rw [u.foldSweep_unphased (by rwa [x.offChannel_iff, ← hoff]) unphased]
    exact counted .unphasedEvidence (by simp) (by simp)
  · subst unvoid
    rw [u.foldSweep_evidence (by rwa [x.offChannel_iff, ← hoff]) aligned phase]
    refine ⟨_, handedToMap_handToMap only fifo reported f _, sweepEvidence_span .., fun k slice report listed hslice => ?_⟩
    rw [sweepEvidence_stepIn _ _ (fun wide => on (hoff.2 (.inr wide))) listed hslice, SliceReport.step_eq]

end Sys2Proof.Machine
end

section
/-! Evidence served at the Map (O36): each cell takes the step that the request calls for there, and the hot cells are recounted. -/

namespace Sys2Proof.Machine

/-- The number of hot cells, as the statements count them (R81). -/
theorem countHot_eq (cells : Vector Nat 256) (level : Nat) :
    countHot cells level = (cells.toList.filter fun c => decide (level ≤ c)).length :=
  List.countP_eq_length_filter

/-- The recount writes the hot count, and flags its rise from 0 (R81, R82). -/
theorem State.recount_effect (s : State) :
    s.recount.map = { s.map with hotCount := countHot s.map.cells s.map.settings.hotLevel } ∧
      OnlyIn [.map, .report] s s.recount ∧
      Reported (if s.map.hotCount = 0 ∧ 0 < s.recount.map.hotCount then [.mapHot] else []) [] s s.recount := by
  have map : s.recount.map = { s.map with hotCount := countHot s.map.cells s.map.settings.hotLevel } := by
    simp only [State.recount]
    split <;> rfl
  refine ⟨map, ?_, ?_⟩
  · obtain ⟨_, _, h⟩ := s.recount_touches
    rw [h]
    simp [onlyIn_iff]
  · have same : Reported [] [] s { s with map := { s.map with
        hotCount := countHot s.map.cells s.map.settings.hotLevel } } := (Reported.refl s).congr rfl rfl
    rw [map]
    simp only [State.recount]
    split
    · exact same.setFlag .mapHot
    · exact same

/-- The step that a request calls for in the cell of a bin and a slice (R72). -/
theorem Evidence.stepAt_cell (e : Evidence) (bin : Nat) {k : Nat} (slice : k < 4) :
    e.stepAt (4 * bin + k) = if e.span.has bin then e.stepIn k else none := by
  have bin' : (4 * bin + k) / 4 = bin := by omega
  have slice' : (4 * bin + k) % 4 = k := by omega
  rw [Evidence.stepAt, bin', slice']

/-- Each cell after an evidence request (R72). -/
theorem scoreAt_applyEvidence (e : Evidence) (cells : Vector Nat 256) {bin k : Nat} (hbin : bin < 64) (slice : k < 4) :
    scoreAt (applyEvidence e cells) bin k =
      stepScore (if e.span.has bin then e.stepIn k else none) (scoreAt cells bin k) := by
  have cell : 4 * bin + k < 256 := by omega
  rw [← e.stepAt_cell bin slice]
  simp [scoreAt, applyEvidence, cell]

theorem exec_evidence {s : State} {e : Evidence} {b : Bool} {more : List MapRequest}
    (head : s.map.requests = .evidence e b :: more) :
    exec .evidence s = .next (((s.popMap.serveEvidence e).endFoldIf b).driveLines) := by
  simp only [exec, execEvidence, head]
  rfl

theorem exec_evidence_idle {s : State} (other : ∀ e b more, s.map.requests ≠ .evidence e b :: more) :
    exec .evidence s = .next s.driveLines := by
  show execEvidence s = _
  unfold execEvidence
  split
  next head => exact absurd head (other _ _ _)
  · rfl

theorem State.endFoldIf_map (s : State) (b : Bool) : (s.endFoldIf b).map = s.map := by
  obtain ⟨_, _, _, h⟩ := s.endFoldIf_touches b
  rw [h]

/-- An evidence request served: the cells and the hot count of the Map, and what is reported (R72, R81). -/
theorem State.serveEvidence_effect {s : State} {e : Evidence} {b : Bool} {more : List MapRequest}
    (head : s.map.requests = .evidence e b :: more) :
    (s.popMap.serveEvidence e).map = { s.map with
        cells := applyEvidence e s.map.cells
        hotCount := ((applyEvidence e s.map.cells).toList.filter fun c => decide (s.map.settings.hotLevel ≤ c)).length
        requests := more } ∧
      OnlyIn [.map, .report] s (s.popMap.serveEvidence e) ∧
      Reported (if s.map.hotCount = 0 ∧ 0 < (s.popMap.serveEvidence e).map.hotCount then [.mapHot] else []) [] s
        (s.popMap.serveEvidence e) := by
  obtain ⟨map, only, reported⟩ := State.recount_effect
    { s.popMap with map := { s.popMap.map with cells := applyEvidence e s.map.cells } }
  refine ⟨map.trans ?_, ?_, reported.congr rfl rfl⟩
  · rw [← countHot_eq]
    simp [State.popMap, head]
  · exact OnlyIn.trans (first := [.map]) (by simp [onlyIn_iff]) only (by simp) (by simp)

/-- Settles O36: cell by cell, the recount, and the end of the fold that waited. -/
theorem evidenceIsServed : Obligations.EvidenceIsServed := by
  refine ⟨fun s e b more head => ?_, fun s other => changesNothing (exec_evidence_idle other)⟩
  obtain ⟨map, only, reported⟩ := State.serveEvidence_effect head
  have served := servedFor_endFoldIf only (by simp) (by simp) (by simp) (by simp) (by simp) reported (by simp) b
  have map' : ((s.popMap.serveEvidence e).endFoldIf b).driveLines.map = _ := (State.endFoldIf_map _ b).trans map
  rw [map] at served
  have done := exec_evidence head
  generalize ((s.popMap.serveEvidence e).endFoldIf b).driveLines = t at done map' served
  refine ⟨t, done, fun bin k hbin slice => ?_, ?_, ?_, ?_⟩
  · rw [map', scoreAt_applyEvidence e _ hbin slice]
    refine ⟨fun none' => ?_, fun within => ⟨fun n rises => ?_, fun n falls => ?_⟩⟩
    · obtain outside | unstepped := none'
      · simp [outside, stepScore]
      · simp [unstepped, stepScore]
    · simp [within, rises, stepScore, CellStep.apply]
    · simp [within, falls, stepScore, CellStep.apply]
  · rw [map']
  · rw [map']
  · rw [map']
    exact served

end Sys2Proof.Machine
end

section
/-! The Schedule's commands (O39 to O42): entries armed in their slots, beacons of known neighbours and of newcomers, missed beacons,
clears and settings. -/

namespace Sys2Proof.Machine

/-! ### Arming a slot (R95) -/

/-- An entry with its miss expiry armed, and taken at once when it is not after Air Time (R19, R95). -/
def Neighbour.rearmed (e : Neighbour) (tolerance : Nat) (now : Time) : Neighbour :=
  { e with expiry := (e.armed tolerance).expiry, taken := !after (e.armed tolerance).expiry now }

theorem after_iff (a b : Time) : after a b = true ↔ 0 < (a - b).toInt := decide_eq_true_iff

theorem Neighbour.rearmed_taken_iff (e : Neighbour) (tolerance : Nat) (now : Time) :
    (e.rearmed tolerance now).taken = true ↔
      (e.anchor + BitVec.ofNat 32 (e.interval * 1024 + tolerance) - now).toInt ≤ 0 := by
  simp only [Neighbour.rearmed, Bool.not_eq_true', ← Bool.not_eq_true, after_iff, Int.not_lt]
  rfl

theorem Neighbour.rearmed_of_after {e : Neighbour} {tolerance : Nat} {now : Time}
    (later : after (e.armed tolerance).expiry now = true) : e.rearmed tolerance now = e.armed tolerance := by
  rw [Neighbour.rearmed, later]
  rfl

theorem Neighbour.rearmed_of_not_after {e : Neighbour} {tolerance : Nat} {now : Time}
    (late : after (e.armed tolerance).expiry now = false) :
    e.rearmed tolerance now = { e.armed tolerance with taken := true } := by
  rw [Neighbour.rearmed, late]
  rfl

/-- An entry put into a slot and armed: the slot, and the request of an expiry taken at once. -/
theorem State.armSlot_eq (s : State) (i : Fin 8) (e : Neighbour) :
    s.armSlot i e = { s with schedule := { s.schedule with
      slots := s.schedule.slots.set i (some (e.rearmed s.schedule.settings.tolerance s.air.airTime))
      requests := s.schedule.requests ++
        if (e.rearmed s.schedule.settings.tolerance s.air.airTime).taken then [.expiry i e.address] else [] } } := by
  cases later : after (e.armed s.schedule.settings.tolerance).expiry s.air.airTime with
  | true =>
    have arms : s.armSlot i e = s.setSlot i (some (e.armed s.schedule.settings.tolerance)) := if_pos later
    rw [arms, Neighbour.rearmed_of_after later]
    simp [State.setSlot, Neighbour.armed]
  | false =>
    have takes : s.armSlot i e = s.sendMiss i (e.armed s.schedule.settings.tolerance) := if_neg (by simp [later])
    rw [takes, Neighbour.rearmed_of_not_after later]
    simp [State.sendMiss, State.setSlot, State.sendSchedule, Neighbour.armed]

/-- The request in service leaves the head. -/
theorem State.popSchedule_eq {s : State} {q : ScheduleRequest} {more : List ScheduleRequest}
    (head : s.schedule.requests = q :: more) :
    s.popSchedule = { s with schedule := { s.schedule with requests := more } } := by
  simp [State.popSchedule, head]

/-- The state `v` comes from `s` by nothing but a request that left the head, and by what was reported: the requests named wait,
and nothing else of the Schedule has changed. -/
structure Waiting (more : List ScheduleRequest) (set : List Flag) (counted : List Counter) (s v : State) : Prop where
  schedule : v.schedule = { s.schedule with requests := more }
  only : OnlyIn [.schedule, .report] s v
  reported : Reported set counted s v
  unstepped : .step ∉ counted

theorem waiting_popSchedule {s : State} {q : ScheduleRequest} {more : List ScheduleRequest}
    (head : s.schedule.requests = q :: more) : Waiting more [] [] s s.popSchedule := by
  rw [State.popSchedule_eq head]
  exact ⟨rfl, by simp [onlyIn_iff], (Reported.refl s).congr rfl rfl, by simp⟩

section
variable {more : List ScheduleRequest} {set : List Flag} {counted : List Counter} {s v : State}

theorem Waiting.count (h : Waiting more set counted s v) {c : Counter} (new : c ∉ counted) (unstep : c ≠ .step) :
    Waiting more set (counted ++ [c]) s (v.count c) := by
  obtain ⟨schedule, only, reported, unstepped⟩ := h
  exact ⟨schedule, only.trans (second := [.report]) (by simp [onlyIn_iff]) (by simp) (by simp), reported.count new,
    by simp [unstepped, unstep.symm]⟩

theorem Waiting.setFlag (h : Waiting more set counted s v) (f : Flag) : Waiting more (set ++ [f]) counted s (v.setFlag f) := by
  obtain ⟨schedule, only, reported, unstepped⟩ := h
  exact ⟨schedule, only.trans (second := [.report]) (by simp [onlyIn_iff]) (by simp) (by simp), reported.setFlag f, unstepped⟩

/-- A request served by a change of the Schedule alone, with the fold that waited ended. -/
theorem Waiting.served (h : Waiting more set counted s v) {u : State} {schedule' : Schedule}
    (serves : u = { v with schedule := schedule' }) (forFold : Bool) :
    ServedFor forFold [.schedule, .report] set counted s (u.endFoldIf forFold).driveLines ∧
      (u.endFoldIf forFold).driveLines.schedule = schedule' := by
  obtain ⟨-, only, reported, unstepped⟩ := h
  have changed : OnlyIn [.schedule, .report] s u :=
    only.trans (second := [.schedule]) (by simp [serves, onlyIn_iff]) (by simp) (by simp)
  refine ⟨servedFor_endFoldIf changed (by simp) (by simp) (by simp) (by simp) (by simp)
    (reported.congr rfl (by rw [serves])) unstepped forFold, (State.endFoldIf_schedule u forFold).trans (by rw [serves])⟩

/-- A request served by arming a slot, with the fold that waited ended. -/
theorem Waiting.armed (h : Waiting more set counted s v) (i : Fin 8) (e : Neighbour) (forFold : Bool) :
    ServedFor forFold [.schedule, .report] set counted s ((v.armSlot i e).endFoldIf forFold).driveLines ∧
      ArmedIn i e more s ((v.armSlot i e).endFoldIf forFold).driveLines := by
  obtain ⟨served, schedule⟩ := h.served (v.armSlot_eq i e) forFold
  refine ⟨served, _, _, rfl, e.rearmed_taken_iff s.schedule.settings.tolerance s.air.airTime, ?_⟩
  have air : v.air = s.air := h.only.2 .air (by simp)
  rw [schedule, h.schedule, air]
  rfl

end

/-! ### The command BEACON_UPDATE -/

theorem exec_beaconUpdate {s : State} {u : BeaconUpdate} {b : Bool} {more : List ScheduleRequest}
    (head : s.schedule.requests = .update u b :: more) :
    exec .beaconUpdate s = .next ((s.popSchedule.serveUpdate u).endFoldIf b).driveLines := by
  simp only [exec, execBeaconUpdate, head]
  rfl

theorem exec_beaconUpdate_idle {s : State} (other : ∀ u b more, s.schedule.requests ≠ .update u b :: more) :
    exec .beaconUpdate s = .next s.driveLines := by
  show execBeaconUpdate s = _
  unfold execBeaconUpdate
  split
  next head => exact absurd head (other _ _ _)
  · rfl

theorem intervalInRange_iff (interval : Nat) : intervalInRange interval = true ↔ 16 ≤ interval ∧ interval ≤ 1023 := by
  simp [intervalInRange]

theorem findAddress_eq_some_iff (slots : Vector (Option Neighbour) 8) (address : BitVec 48) (i : Fin 8) :
    findAddress slots address = some i ↔ (∃ e, slots[i] = some e ∧ e.address = address) ∧
      ∀ j, j < i → ∀ x, slots[j] = some x → x.address ≠ address := by
  have held : ∀ j : Fin 8, (match slots[j] with | some e => e.address == address | none => false) = true ↔
      ∃ e, slots[j] = some e ∧ e.address = address := by
    intro j
    cases slots[j] <;> simp
  unfold findAddress
  rw [← Fin.find?_eq_find?_finRange, Fin.find?_eq_some_iff]
  refine and_congr (held i) (forall_congr' fun j => imp_congr_right fun _ => ?_)
  rw [← Bool.not_eq_true]
  exact (not_congr (held j)).trans (by simp)

theorem findFree_eq_some_iff (slots : Vector (Option Neighbour) 8) (i : Fin 8) :
    findFree slots = some i ↔ slots[i] = none ∧ ∀ j, j < i → slots[j] ≠ none := by
  unfold findFree
  rw [← Fin.find?_eq_find?_finRange, Fin.find?_eq_some_iff]
  simp only [← Bool.not_eq_true, Option.isNone_iff_eq_none, ne_eq]

/-! ### Beacons of known neighbours (R90 to R92) -/

section
variable {s : State} {i : Fin 8} {e : Neighbour} {u : BeaconUpdate}

/-- An update in range for the address of one entry is an update of that entry (R89). -/
theorem State.serveUpdate_known (held : s.schedule.slots[i] = some e) (address : e.address = u.address)
    (unique : ∀ j : Fin 8, ∀ x, s.schedule.slots[j] = some x → x.address = u.address → j = i) (low : 16 ≤ u.interval)
    (high : u.interval ≤ 1023) : s.serveUpdate u = s.updateEntry i e u := by
  have range : intervalInRange u.interval = true := (intervalInRange_iff _).2 ⟨low, high⟩
  have found : findAddress s.schedule.slots u.address = some i :=
    (findAddress_eq_some_iff ..).2 ⟨⟨e, held, address⟩, fun j earlier x hx same => earlier.ne (unique j x hx same)⟩
  simp only [State.serveUpdate, range, found, held]
  rfl

theorem State.updateEntry_reanchors
    (course : u.interval ≠ e.interval ∨ (e.error u < -(s.schedule.settings.tolerance : Int) ∨
      (s.schedule.settings.tolerance : Int) < e.error u) ∧ 2 ≤ e.misaligned) :
    s.updateEntry i e u = (s.count .reAnchor).armSlot i (e.reanchored u) := by
  unfold State.updateEntry
  split
  · rfl
  next same =>
    obtain ⟨out, run⟩ := course.resolve_left same
    rw [if_neg (by omega), if_neg (by omega)]

theorem State.updateEntry_matches (same : u.interval = e.interval)
    (low : -(s.schedule.settings.tolerance : Int) ≤ e.error u) (high : e.error u ≤ (s.schedule.settings.tolerance : Int)) :
    s.updateEntry i e u = s.armSlot i (e.afterMatch u) := by
  rw [State.updateEntry, if_neg (by simpa using same), if_pos ⟨low, high⟩]

theorem State.updateEntry_misaligned (same : u.interval = e.interval)
    (out : e.error u < -(s.schedule.settings.tolerance : Int) ∨ (s.schedule.settings.tolerance : Int) < e.error u)
    (run : e.misaligned ≤ 1) : s.updateEntry i e u = s.setSlot i (some (e.afterMisaligned u)) := by
  rw [State.updateEntry, if_neg (by simpa using same), if_neg (by omega), if_pos (by omega)]

end

/-- An entry after a match, as the statement writes it (R91). -/
theorem Neighbour.afterMatch_eq (e : Neighbour) (u : BeaconUpdate) : e.afterMatch u = { e with
    anchor := e.anchor + BitVec.ofNat 32 (e.interval * 1024) + BitVec.ofInt 32 ((e.error u).tdiv 4)
    confidence := if e.confidence < 7 then e.confidence + 1 else 7
    missCount := 0, misaligned := 0, airtime := u.airtime.getD e.airtime, lastSeen := u.start } := by
  have most : min 7 (e.confidence + 1) = if e.confidence < 7 then e.confidence + 1 else 7 := by
    split <;> omega
  rw [← most]
  rfl

/-- Settles O39: the update of the entry by its interval, its error and its misaligned run. -/
theorem beaconOfAKnownNeighbour : Obligations.BeaconOfAKnownNeighbour := by
  intro s u b more i e err head held address unique low high herr
  have waiting := waiting_popSchedule head
  have error : e.error u = err := herr.symm
  have done := exec_beaconUpdate head
  rw [State.popSchedule_eq head] at waiting done
  rw [State.serveUpdate_known (by exact held) address (by exact unique) low high] at done
  refine ⟨_, done, fun course => ?_, fun same within within' => ?_, fun same out run => ?_⟩
  · rw [State.updateEntry_reanchors (by rw [error]; exact course)]
    exact (waiting.count (c := .reAnchor) (by simp) (by simp)).armed i (e.reanchored u) b
  · rw [State.updateEntry_matches same (by rw [error]; exact within) (by rw [error]; exact within'), e.afterMatch_eq, error]
    exact waiting.armed i _ b
  · rw [State.updateEntry_misaligned same (by rw [error]; exact out) run]
    exact waiting.served rfl b

/-! ### The victim of a full table (R94) -/

theorem mem_heldEntries (slots : Vector (Option Neighbour) 8) (i : Fin 8) (e : Neighbour) :
    (i, e) ∈ heldEntries slots ↔ slots[i] = some e := by
  simp [heldEntries]

theorem mem_weakest (slots : Vector (Option Neighbour) 8) (i : Fin 8) (e : Neighbour) :
    (i, e) ∈ weakest (heldEntries slots) ↔
      slots[i] = some e ∧ ∀ j : Fin 8, ∀ x, slots[j] = some x → e.confidence ≤ x.confidence := by
  simp [weakest, mem_heldEntries]

/-- The entries of a table are listed in slot order. -/
theorem heldEntries_sorted (slots : Vector (Option Neighbour) 8) :
    (heldEntries slots).Pairwise fun p q => p.1 < q.1 := by
  refine (List.pairwise_lt_finRange 8).filterMap _ fun i j earlier p hp q hq => ?_
  simp only [Option.map_eq_some_iff] at hp hq
  obtain ⟨_, -, rfl⟩ := hp
  obtain ⟨_, -, rfl⟩ := hq
  exact earlier

/-- A full table has a weakest entry, and the victim is one. -/
theorem victim_weakest {slots : Vector (Option Neighbour) 8} (full : ∀ j : Fin 8, slots[j] ≠ none) :
    ∃ p, p ∈ weakest (heldEntries slots) ∧ victim slots = some p := by
  have nonempty : 0 < (weakest (heldEntries slots)).length := by
    obtain ⟨i, least⟩ := Finite.exists_min fun j : Fin 8 => (slots[j].map Neighbour.confidence).getD 0
    obtain ⟨e, held⟩ := Option.ne_none_iff_exists'.1 (full i)
    refine List.length_pos_of_mem ((mem_weakest slots i e).2 ⟨held, fun j x hx => ?_⟩)
    simpa [held, hx] using least j
  simp only [victim]
  split
  next p rest first => exact ⟨p, List.mem_of_mem_filter (first ▸ List.mem_cons_self), rfl⟩
  · have inside := Nat.mod_lt (Config.unorderedVictim ((weakest (heldEntries slots)).map fun p => (p.1.val, p.2.lastSeen)))
      nonempty
    exact ⟨_, List.getElem_mem inside, List.getElem?_eq_getElem inside⟩

/-- A time before another is not after it (R18). -/
theorem toInt_sub_neg {a b : Time} (later : 0 < (a - b).toInt) : (b - a).toInt < 0 := by
  have reversed : b - a = -(a - b) := (neg_sub a b).symm
  have bound := BitVec.toInt_lt (x := a - b)
  rw [reversed, BitVec.toInt_neg, Int.bmod_eq_of_le] <;> omega

/-- The weakest entry that was last seen earliest, and of several such the one in the lowest slot, is the victim. -/
theorem victim_of_earliest {slots : Vector (Option Neighbour) 8} {i : Fin 8} {e : Neighbour} (held : slots[i] = some e)
    (least : ∀ j : Fin 8, ∀ x, slots[j] = some x → e.confidence ≤ x.confidence ∧
      (x.confidence = e.confidence → 0 ≤ (x.lastSeen - e.lastSeen).toInt ∧
        (j < i → 0 < (x.lastSeen - e.lastSeen).toInt))) : victim slots = some (i, e) := by
  have weak : (i, e) ∈ weakest (heldEntries slots) := (mem_weakest slots i e).2 ⟨held, fun j x hx => (least j x hx).1⟩
  have level : ∀ j x, (j, x) ∈ weakest (heldEntries slots) → slots[j] = some x ∧ x.confidence = e.confidence := by
    intro j x hx
    obtain ⟨hj, lowest⟩ := (mem_weakest slots j x).1 hx
    exact ⟨hj, le_antisymm (lowest i e held) (least j x hj).1⟩
  have earliest : (i, e) ∈ earliestSeen (weakest (heldEntries slots)) := by
    refine List.mem_filter.2 ⟨weak, List.all_eq_true.2 fun q hq => ?_⟩
    obtain ⟨hj, same⟩ := level q.1 q.2 hq
    have seen := ((least q.1 q.2 hj).2 same).1
    simpa [before, sdiff] using seen
  have sorted : (earliestSeen (weakest (heldEntries slots))).Pairwise fun p q => p.1 < q.1 :=
    ((heldEntries_sorted slots).filter _).filter _
  simp only [victim]
  split
  next p rest first =>
    rw [first] at earliest sorted
    obtain rfl | behind := List.mem_cons.1 earliest
    · rfl
    · have lower : p.1 < i := List.rel_of_pairwise_cons sorted behind
      have listed : p ∈ earliestSeen (weakest (heldEntries slots)) := first ▸ List.mem_cons_self
      obtain ⟨weak', no_earlier⟩ := List.mem_filter.1 listed
      obtain ⟨hj, same⟩ := level p.1 p.2 weak'
      have later := ((least p.1 p.2 hj).2 same).2 lower
      have notLater : 0 ≤ (e.lastSeen - p.2.lastSeen).toInt := by
        simpa [before, sdiff] using List.all_eq_true.1 no_earlier (i, e) weak
      have reversed := toInt_sub_neg later
      omega
  next none' =>
    rw [none'] at earliest
    cases earliest

/-! ### Newcomers (R89, R93, R94) -/

section
variable {s : State} {u : BeaconUpdate}

/-- An interval out of range is only counted (R89). -/
theorem State.serveUpdate_outOfRange (out : u.interval < 16 ∨ 1023 < u.interval) :
    s.serveUpdate u = s.count .intervalRange := by
  have range : ¬ intervalInRange u.interval = true := by
    rw [intervalInRange_iff]
    omega
  simp [State.serveUpdate, range]

/-- An update in range for an address that no entry has is a newcomer's (R89). -/
theorem State.serveUpdate_newcomer (low : 16 ≤ u.interval) (high : u.interval ≤ 1023)
    (unknown : ∀ j : Fin 8, ∀ x, s.schedule.slots[j] = some x → x.address ≠ u.address) :
    s.serveUpdate u = s.takeNewcomer u := by
  have range : intervalInRange u.interval = true := (intervalInRange_iff _).2 ⟨low, high⟩
  have missing : findAddress s.schedule.slots u.address = none := by
    cases found : findAddress s.schedule.slots u.address with
    | none => rfl
    | some i =>
      obtain ⟨⟨e, held, same⟩, -⟩ := (findAddress_eq_some_iff ..).1 found
      exact absurd same (unknown i e held)
  simp [State.serveUpdate, range, missing]

theorem State.takeNewcomer_free {i : Fin 8} (free : s.schedule.slots[i] = none)
    (lowest : ∀ j : Fin 8, j < i → s.schedule.slots[j] ≠ none) : s.takeNewcomer u = s.armSlot i u.newcomer := by
  have found : findFree s.schedule.slots = some i := (findFree_eq_some_iff ..).2 ⟨free, lowest⟩
  simp [State.takeNewcomer, found]

/-- A full table refuses the newcomer or gives it the victim's slot (R94). -/
theorem State.takeNewcomer_full (full : ∀ j : Fin 8, s.schedule.slots[j] ≠ none) {i : Fin 8} {e : Neighbour}
    (chosen : victim s.schedule.slots = some (i, e)) : s.takeNewcomer u =
      if s.schedule.settings.protect ≤ e.confidence then (s.setFlag .neighbourFull).count .neighbourRefused
      else (s.count .neighbourReplaced).armSlot i u.newcomer := by
  have noneFree : findFree s.schedule.slots = none := by
    cases found : findFree s.schedule.slots with
    | none => rfl
    | some j => exact absurd ((findFree_eq_some_iff ..).1 found).1 (full j)
  simp [State.takeNewcomer, noneFree, chosen]

end

/-- Settles O40: the interval's range, the lowest FREE slot, and the victim of a full table. -/
theorem beaconOfANewcomer : Obligations.BeaconOfANewcomer := by
  refine ⟨fun s u b more new head hnew => ?_, fun s other => changesNothing (exec_beaconUpdate_idle other)⟩
  obtain rfl : new = u.newcomer := hnew
  have waiting := waiting_popSchedule head
  have done := exec_beaconUpdate head
  rw [State.popSchedule_eq head] at waiting done
  refine ⟨_, done, fun out => ?_, fun low high unknown => ?_⟩
  · rw [State.serveUpdate_outOfRange out]
    exact (waiting.count (c := .intervalRange) (by simp) (by simp)).served rfl b
  rw [State.serveUpdate_newcomer low high (by exact unknown)]
  have replaced : ∀ i, ServedFor b [.schedule, .report] [] [.neighbourReplaced] s _ ∧ ArmedIn i u.newcomer more s _ :=
    fun i => (waiting.count (c := .neighbourReplaced) (by simp) (by simp)).armed i u.newcomer b
  refine ⟨fun i free lowest => ?_, fun full => ⟨fun i e held least below => ?_, ?_⟩⟩
  · rw [State.takeNewcomer_free (by exact free) (by exact lowest)]
    exact waiting.armed i _ b
  · rw [State.takeNewcomer_full (by exact full) (by exact victim_of_earliest held least), if_neg (by exact not_le.2 below)]
    exact replaced i
  · obtain ⟨⟨i, e⟩, weak, chosen⟩ := victim_weakest full
    obtain ⟨held, least⟩ := (mem_weakest ..).1 weak
    rw [State.takeNewcomer_full (by exact full) (by exact chosen)]
    refine ⟨i, e, held, least, fun below => ?_, fun protected' => ?_⟩
    · rw [if_neg (by exact not_le.2 below)]
      exact replaced i
    · rw [if_pos (by exact protected')]
      exact ((waiting.setFlag .neighbourFull).count (c := .neighbourRefused) (by simp) (by simp)).served rfl b

/-! ### Missed beacons (R95, R96) -/

section
variable {s : State} {i : Fin 8} {e : Neighbour}

theorem reaches_iff (now t : Time) : reaches now t = true ↔ 0 ≤ (now - t).toInt := decide_eq_true_iff

theorem State.takeMiss_due (held : s.schedule.slots[i] = some e) (due : 0 ≤ (s.air.airTime - e.expiry).toInt)
    (untaken : e.taken = false) : s.takeMiss i = { s with schedule := { s.schedule with
      slots := s.schedule.slots.set i (some { e with taken := true })
      requests := s.schedule.requests ++ [.expiry i e.address] } } := by
  have reached := (reaches_iff ..).2 due
  simp only [State.takeMiss, held, reached, untaken]
  rfl

theorem State.takeMiss_notDue
    (notDue : ∀ e, s.schedule.slots[i] = some e → (s.air.airTime - e.expiry).toInt < 0 ∨ e.taken = true) :
    s.takeMiss i = s := by
  unfold State.takeMiss
  split
  next e held =>
    refine if_neg fun due => ?_
    simp only [Bool.and_eq_true, reaches_iff, Bool.not_eq_true'] at due
    obtain ⟨reached, untaken⟩ := due
    obtain later | taken := notDue e held
    · omega
    · simp [untaken] at taken
  · rfl

theorem exec_missedBeacon {a : BitVec 48} {more : List ScheduleRequest} (head : s.schedule.requests = .expiry i a :: more) :
    exec .missedBeacon s = .next (s.popSchedule.serveExpiry i a).driveLines := by
  simp only [exec, execMissedBeacon, head]
  rfl

theorem exec_missedBeacon_idle (other : ∀ i a more, s.schedule.requests ≠ .expiry i a :: more) :
    exec .missedBeacon s = .next s.driveLines := by
  show execMissedBeacon s = _
  unfold execMissedBeacon
  split
  next head => exact absurd head (other _ _ _)
  · rfl

/-- An expiry whose check fails at its service (R96). -/
theorem State.serveExpiry_setAside {a : BitVec 48}
    (fails : ∀ e, s.schedule.slots[i] = some e → e.address ≠ a ∨ (s.air.airTime - e.expiry).toInt < 0) :
    s.serveExpiry i a = s := by
  unfold State.serveExpiry
  split
  next e held =>
    refine if_neg fun passes => ?_
    rw [reaches_iff] at passes
    obtain ⟨same, reached⟩ := passes
    have := (fails e held).resolve_left (not_not.2 same)
    omega
  · rfl

theorem State.serveExpiry_missed (held : s.schedule.slots[i] = some e) (due : 0 ≤ (s.air.airTime - e.expiry).toInt) :
    s.serveExpiry i e.address = s.missBeacon i e := by
  have reached := (reaches_iff ..).2 due
  simp [State.serveExpiry, held, reached]

end

/-- Settles O41: the expiry taken or not due, and its service by the check and the confidence. -/
theorem missedBeacons : Obligations.MissedBeacons := by
  refine ⟨fun s i => ⟨(s.takeMiss i).driveLines, rfl, ?_, fun e held due untaken => ?_, fun notDue => ?_⟩,
    fun s i a more head => ?_, fun s other => changesNothing (exec_missedBeacon_idle other)⟩
  · obtain ⟨_, h⟩ := s.takeMiss_touches i
    rw [h]
    exact ((Reported.refl s).congr rfl rfl).driveLines
  · rw [State.takeMiss_due held due untaken]
    exact ⟨OnlyIn.driveLines (by simp [onlyIn_iff]) (by simp), rfl⟩
  · rw [State.takeMiss_notDue notDue]
    exact OnlyIn.driveLines (by simp [onlyIn_iff]) (by simp)
  have waiting := waiting_popSchedule head
  have done := exec_missedBeacon head
  obtain ⟨_, _, touches⟩ := s.popSchedule.serveExpiry_touches i a
  have only : OnlyIn [.schedule, .report] s (s.popSchedule.serveExpiry i a).driveLines := by
    rw [touches]
    exact OnlyIn.driveLines (by simp [onlyIn_iff]) (by simp)
  rw [State.popSchedule_eq head] at waiting done only
  refine ⟨_, done, only, fun fails => ?_, fun e held same due => ?_⟩
  · rw [State.serveExpiry_setAside (by exact fails)]
    exact ⟨rfl, waiting.reported.driveLines⟩
  · subst same
    rw [State.serveExpiry_missed (by exact held) (by exact due), State.missBeacon]
    refine ⟨fun weak => ?_, fun strong => ?_⟩
    · rw [if_pos weak]
      exact ⟨((waiting.reported.congr rfl rfl).count (by simp)).driveLines, rfl⟩
    · rw [if_neg (by omega)]
      obtain ⟨served, armed⟩ := waiting.armed i e.afterMiss false
      exact ⟨(served.1 rfl).2, armed⟩

/-! ### Clears and settings (R100, R101) -/

section
variable {s : State}

theorem exec_neighbourClear {more : List ScheduleRequest} (head : s.schedule.requests = .clear :: more) :
    exec .neighbourClear s = .next s.popSchedule.serveNeighbourClear.driveLines := by
  simp only [exec, execNeighbourClear, head]
  rfl

theorem exec_neighbourClear_idle (other : s.schedule.requests.head? ≠ some .clear) :
    exec .neighbourClear s = .next s.driveLines := by
  show execNeighbourClear s = _
  unfold execNeighbourClear
  split
  next head => simp [head] at other
  · rfl

theorem exec_neighbourSettings {n : NeighbourFields} {more : List ScheduleRequest}
    (head : s.schedule.requests = .settings n :: more) :
    exec .neighbourSettings s = .next (s.popSchedule.serveNeighbourSettings n).driveLines := by
  simp only [exec, execNeighbourSettings, head]
  rfl

theorem exec_neighbourSettings_idle (other : ∀ n, s.schedule.requests.head? ≠ some (.settings n)) :
    exec .neighbourSettings s = .next s.driveLines := by
  show execNeighbourSettings s = _
  unfold execNeighbourSettings
  split
  next n rest head => exact absurd (by rw [head]; rfl) (other n)
  · rfl

end

/-- The request of an entry's expiry when it is taken as it is armed (R19, R100). -/
def missRequest (tolerance : Nat) (now : Time) (i : Fin 8) (slot : Option Neighbour) : Option ScheduleRequest :=
  (slot.filter fun e => (e.rearmed tolerance now).taken).map fun e => .expiry i e.address

theorem missRequest_some (tolerance : Nat) (now : Time) (i : Fin 8) (e : Neighbour) :
    (missRequest tolerance now i (some e)).toList =
      if (e.rearmed tolerance now).taken then [.expiry i e.address] else [] := by
  unfold missRequest
  cases late : (e.rearmed tolerance now).taken <;> simp [Option.filter, late]

/-- A slot re-armed: its entry, when it holds one, and the request of its expiry when that is taken at once (R100). -/
theorem State.rearmSlot_eq (s : State) (i : Fin 8) :
    s.rearmSlot i = { s with schedule := { s.schedule with
      slots := s.schedule.slots.set i (s.schedule.slots[i].map fun e => e.rearmed s.schedule.settings.tolerance s.air.airTime)
      requests := s.schedule.requests ++
        (missRequest s.schedule.settings.tolerance s.air.airTime i s.schedule.slots[i]).toList } } := by
  unfold State.rearmSlot
  split
  next e held =>
    rw [s.armSlot_eq, held, missRequest_some]
    rfl
  next free =>
    have same : s.schedule.slots.set i none = s.schedule.slots := by
      rw [← free]
      exact Vector.set_getElem_self i.isLt
    simp [free, missRequest, same]

/-- The entries of a list of slots re-armed one after the other, and the expiries taken at once, in the list's order (R19, R100). -/
theorem foldl_rearmSlot (l : List (Fin 8)) (distinct : l.Nodup) (s : State) :
    (l.foldl State.rearmSlot s).schedule.settings = s.schedule.settings ∧
      (∀ j : Fin 8, (l.foldl State.rearmSlot s).schedule.slots[j] =
        if j ∈ l then s.schedule.slots[j].map fun e => e.rearmed s.schedule.settings.tolerance s.air.airTime
        else s.schedule.slots[j]) ∧
      (l.foldl State.rearmSlot s).schedule.requests = s.schedule.requests ++
        l.filterMap fun j => missRequest s.schedule.settings.tolerance s.air.airTime j s.schedule.slots[j] := by
  induction l generalizing s with
  | nil => simp
  | cons i l ih =>
    obtain ⟨notLater, distinct⟩ := List.nodup_cons.1 distinct
    obtain ⟨settings, slots, requests⟩ := ih distinct (s.rearmSlot i)
    have armed := s.rearmSlot_eq i
    have air : (s.rearmSlot i).air = s.air := by rw [armed]
    have kept : (s.rearmSlot i).schedule.settings = s.schedule.settings := by rw [armed]
    have slot : ∀ j : Fin 8, (s.rearmSlot i).schedule.slots[j] =
        if j = i then s.schedule.slots[i].map fun e => e.rearmed s.schedule.settings.tolerance s.air.airTime
        else s.schedule.slots[j] := fun j => by
      rw [armed]
      exact slot_set ..
    have request : (s.rearmSlot i).schedule.requests = s.schedule.requests ++
        (missRequest s.schedule.settings.tolerance s.air.airTime i s.schedule.slots[i]).toList := by rw [armed]
    rw [air, kept] at slots requests
    refine ⟨settings.trans kept, fun j => ?_, ?_⟩
    · rw [List.foldl_cons, slots j, slot j]
      by_cases here : j = i
      · subst here
        simp [notLater]
      · simp [here]
    · rw [List.foldl_cons, requests, request, List.append_assoc, List.filterMap_cons]
      have rest : ∀ j ∈ l, missRequest s.schedule.settings.tolerance s.air.airTime j (s.rearmSlot i).schedule.slots[j] =
          missRequest s.schedule.settings.tolerance s.air.airTime j s.schedule.slots[j] := fun j hj => by
        have elsewhere : j ≠ i := fun here => notLater (by rwa [here] at hj)
        rw [slot j, if_neg elsewhere]
      rw [List.filterMap_congr rest]
      cases missRequest s.schedule.settings.tolerance s.air.airTime i s.schedule.slots[i] <;> rfl

/-- Settles O42: a clear, and the settings with the entries re-armed in slot order when the tolerance changes. -/
theorem neighbourClearAndSettings : Obligations.NeighbourClearAndSettings := by
  refine ⟨fun s more head => ?_, fun s n more head => ?_, fun s c other => ?_⟩
  · have done := exec_neighbourClear head
    rw [State.popSchedule_eq head] at done
    exact ⟨_, done, OnlyIn.driveLines (by simp [onlyIn_iff]) (by simp), ((Reported.refl s).congr rfl rfl).driveLines, rfl⟩
  · have done := exec_neighbourSettings head
    rw [State.popSchedule_eq head] at done
    obtain ⟨_, touches⟩ := State.serveNeighbourSettings_touches { s with schedule := { s.schedule with requests := more } } n
    refine ⟨_, done, ?_, ?_, fun same => ?_, fun changed x late hx hlate => ?_⟩
    · rw [touches]
      exact OnlyIn.driveLines (by simp [onlyIn_iff]) (by simp)
    · rw [touches]
      exact ((Reported.refl s).congr rfl rfl).driveLines
    · have serves : State.serveNeighbourSettings { s with schedule := { s.schedule with requests := more } } n =
          { s with schedule := { s.schedule with settings := n, requests := more } } := if_pos same
      rw [serves]
      rfl
    · have serves : State.serveNeighbourSettings { s with schedule := { s.schedule with requests := more } } n =
          (List.finRange 8).foldl State.rearmSlot { s with schedule := { s.schedule with settings := n, requests := more } } :=
        if_neg changed
      obtain rfl : x = fun e => (e.armed n.tolerance).expiry := funext hx
      obtain rfl : late = fun e => (e.rearmed n.tolerance s.air.airTime).taken := funext fun e =>
        Bool.eq_iff_iff.2 ((hlate e).trans (e.rearmed_taken_iff n.tolerance s.air.airTime).symm)
      obtain ⟨settings, slots, requests⟩ := foldl_rearmSlot (List.finRange 8) (List.nodup_finRange 8)
        { s with schedule := { s.schedule with settings := n, requests := more } }
      rw [serves]
      generalize (List.finRange 8).foldl State.rearmSlot _ = u at settings slots requests ⊢
      exact ⟨settings, fun i => (slots i).trans (if_pos (List.mem_finRange i)), requests⟩
  · obtain ⟨rfl, unclear⟩ | ⟨rfl, unset⟩ := other
    · exact changesNothing (exec_neighbourClear_idle unclear)
    · exact changesNothing (exec_neighbourSettings_idle unset)

end Sys2Proof.Machine
end

section
/-! The tracker's invariant (O54): the tracker is changed only by MAINS edges, its two expiries, a MAINS record that is accepted,
RESTART and a pin reset, and each of its moves lands in a legal tracker. -/

namespace Sys2Proof.Machine

/-! ### The moves of the tracker -/

theorem validPeriod_iff (p : Int) : validPeriod p = true ↔ 15000 ≤ p ∧ p ≤ 22000 := by simp [validPeriod]

/-- An eighth of the way from one period in range to another stays in range (R34). -/
theorem updatedPeriod_bounds {q p : Nat} (lowest : 15000 ≤ q) (highest : q ≤ 22000) (low : 15000 ≤ p) (high : p ≤ 22000) :
    15000 ≤ updatedPeriod q p ∧ updatedPeriod q p ≤ 22000 := by
  unfold updatedPeriod
  rw [Int.tdiv_eq_ediv, show Int.sign 8 = 1 from rfl]
  split <;> omega

section
variable {tr : Tracker}

/-- The invariant does not read the detector's level, the last transition or the last accepted edge (R30, R31). -/
theorem Tracker.Inv.observed (h : tr.Inv) (level : Bool) (transition accepted : Option Time) :
    Tracker.Inv { tr with mainsHigh := level, lastTransition := transition, lastAccepted := accepted } := h

/-- The role MIDDLE is taken in BOTH alone (R32). -/
theorem Tracker.Inv.withRole (h : tr.Inv) {role : Role} (legal : tr.edgeMode ≠ .both → role = .reference) :
    Tracker.Inv { tr with role := role } := by
  obtain ⟨range, absent, ref, armed, expiry, off, -, rest⟩ := h
  exact ⟨range, absent, ref, armed, expiry, off, legal, rest⟩

/-- The role that a reference edge leaves (R32). -/
theorem Tracker.Inv.afterReference (h : tr.Inv) : Tracker.Inv { tr with role := tr.edgeMode.roleAfterReference } :=
  h.withRole fun one => by rw [EdgeMode.roleAfterReference_eq, if_neg one]

/-- A first reference, in SEEKING (R35). -/
theorem Tracker.Inv.firstReference (h : tr.Inv) (none' : tr.ref = none) (t : Time) : Tracker.Inv { tr with ref := some t } := by
  obtain ⟨range, absent, ref, armed, expiry, rest⟩ := h
  refine ⟨range, absent, fun _ => by simp, armed, fun e he => ?_, rest⟩
  obtain ⟨r, _, hr, -⟩ := expiry e he
  simp [none'] at hr

theorem Tracker.Inv.seekFrom (h : tr.Inv) (on : tr.lockState ≠ .off) (t : Time) : (tr.seekFrom t).Inv := by
  obtain ⟨-, -, -, -, -, off, role, coast, coast', -⟩ := h
  have mode : tr.edgeMode ≠ .off := fun m => on (off.1 m)
  simpa [Tracker.Inv, Tracker.seekFrom, mode, coast, coast'] using role

theorem Tracker.Inv.lockingFrom (h : tr.Inv) (on : tr.lockState ≠ .off) (t : Time) {p : Nat} (low : 15000 ≤ p)
    (high : p ≤ 22000) : (tr.lockingFrom t p).Inv := by
  obtain ⟨-, -, -, -, -, off, role, coast, coast', -⟩ := h
  have mode : tr.edgeMode ≠ .off := fun m => on (off.1 m)
  simpa [Tracker.Inv, Tracker.lockingFrom, mode, coast, coast', low, high] using role

theorem Tracker.Inv.lockedAt (h : tr.Inv) (on : tr.lockState ≠ .off) (t : Time) {p : Nat} (low : 15000 ≤ p)
    (high : p ≤ 22000) : (tr.lockedAt t p).Inv := by
  obtain ⟨-, -, -, -, -, off, role, coast, coast', count, -⟩ := h
  have mode : tr.edgeMode ≠ .off := fun m => on (off.1 m)
  simpa [Tracker.Inv, Tracker.lockedAt, mode, coast, coast', low, high, count, expiryTime, later] using role

/-- LOCKED gained from LOCKING (R36). -/
theorem Tracker.Inv.gained (h : tr.Inv) (on : tr.lockState ≠ .off) (t : Time) {p : Nat} (low : 15000 ≤ p)
    (high : p ≤ 22000) : Tracker.Inv { tr.lockedAt t p with lockCount := 4, relockMark := false } := by
  obtain ⟨range, absent, ref, armed, expiry, off, role, coast, coast', -, -, -, -, coasting⟩ := h.lockedAt on t low high
  exact ⟨range, absent, ref, armed, expiry, off, role, coast, coast', le_rfl, nofun, nofun, nofun, coasting⟩

/-- LOCKING counts on (R36). -/
theorem Tracker.Inv.counted (h : tr.Inv) (locking : tr.lockState = .locking) (few : tr.lockCount + 1 < 4) (t : Time) {p : Nat}
    (low : 15000 ≤ p) (high : p ≤ 22000) :
    Tracker.Inv { tr with period := some p, ref := some t, lockCount := tr.lockCount + 1 } := by
  obtain ⟨-, -, -, armed, -, off, role, coast, coast', -, -, -, -, coasting⟩ := h
  have disarmed : tr.expiry = none := by simpa [locking] using armed
  have count : tr.coastCount = 0 := by simpa [locking] using coasting
  have mode : tr.edgeMode ≠ .off := fun m => by simp [off.1 m] at locking
  have three : tr.lockCount ≤ 2 := by omega
  simpa [Tracker.Inv, locking, disarmed, mode, coast, coast', low, high, count, three] using ⟨role, by omega⟩

/-- A virtual reference edge with a coast count in range (R38, R39). -/
theorem Tracker.Inv.coastStep (h : tr.Inv) (on : tr.lockState ≠ .off) (r : Time) {p n : Nat} (period : tr.period = some p)
    (first : 1 ≤ n) (last : n ≤ 15) : (tr.coastStep r p n).Inv := by
  obtain ⟨range, -, -, -, -, off, -, coast, coast', count, -⟩ := h
  have mode : tr.edgeMode ≠ .off := fun m => on (off.1 m)
  obtain ⟨low, high⟩ := range p period
  rw [Tracker.coastStep_eq]
  simp +contextual [Tracker.Inv, mode, coast, coast', low, high, count, period, first, last]

/-- The loss of lock past the coast limit (R39). -/
theorem Tracker.Inv.loseLock (h : tr.Inv) (on : tr.lockState ≠ .off) (r : Time) {p n : Nat} (period : tr.period = some p)
    (first : 2 ≤ n) (last : n ≤ 16) : (tr.loseLock r p n).Inv := by
  obtain ⟨range, -, -, -, -, off, -, coast, coast', count, -⟩ := h
  have mode : tr.edgeMode ≠ .off := fun m => on (off.1 m)
  obtain ⟨low, high⟩ := range p period
  simp [Tracker.Inv, Tracker.loseLock, mode, coast, coast', low, high, count, period, first, last]

/-- A restart by a new edge mode (R49). -/
theorem tracker_restarted_inv (tr : Tracker) (m : EdgeMode) {n : Nat} (low : 1 ≤ n) (high : n ≤ 15) :
    Tracker.Inv { tr.restarted m with coastLimit := n } := by
  cases m <;> simp [Tracker.Inv, Tracker.restarted, low, high]

/-- A coast limit in range. -/
theorem Tracker.Inv.withCoastLimit (h : tr.Inv) {n : Nat} (low : 1 ≤ n) (high : n ≤ 15) :
    Tracker.Inv { tr with coastLimit := n } := by
  obtain ⟨range, absent, ref, armed, expiry, off, role, -, -, rest⟩ := h
  exact ⟨range, absent, ref, armed, expiry, off, role, low, high, rest⟩

theorem tracker_reset_inv : Tracker.reset.Inv := by simp [Tracker.Inv, Tracker.reset]

end

/-! ### Reference edges -/

section
variable {s : State} {t : Time} {p : Int}

/-- A valid raw period is a period in range. -/
theorem toNat_of_validPeriod (valid : ¬ (!validPeriod p) = true) : 15000 ≤ p.toNat ∧ p.toNat ≤ 22000 := by
  have := (validPeriod_iff p).1 (by simpa using valid)
  omega

/-- The estimate moved toward a valid raw period, where there is one. -/
theorem updatedPeriod_inRange (h : s.tracker.Inv) (valid : ¬ (!validPeriod p) = true)
    (within : ¬ (!inTolerance s.tracker.period p.toNat) = true) :
    15000 ≤ updatedPeriod (s.tracker.period.getD 0) p.toNat ∧ updatedPeriod (s.tracker.period.getD 0) p.toNat ≤ 22000 := by
  obtain ⟨low, high⟩ := toNat_of_validPeriod valid
  cases period : s.tracker.period with
  | none => simp [period, inTolerance] at within
  | some q =>
    obtain ⟨lowest, highest⟩ := h.1 q period
    exact updatedPeriod_bounds lowest highest low high

theorem referenceInSeeking_inv (h : s.tracker.Inv) (on : s.tracker.lockState ≠ .off) :
    (s.referenceInSeeking t p).tracker.Inv := by
  unfold State.referenceInSeeking
  split
  · exact h.seekFrom on t
  next valid =>
    obtain ⟨low, high⟩ := toNat_of_validPeriod valid
    exact h.lockingFrom on t low high

theorem referenceInLocking_inv (h : s.tracker.Inv) (locking : s.tracker.lockState = .locking) :
    (s.referenceInLocking t p).tracker.Inv := by
  have on : s.tracker.lockState ≠ .off := by simp [locking]
  unfold State.referenceInLocking
  split
  · exact h.seekFrom on t
  next valid =>
    split
    next =>
      obtain ⟨low, high⟩ := toNat_of_validPeriod valid
      exact h.lockingFrom on t low high
    next within =>
      obtain ⟨low, high⟩ := updatedPeriod_inRange h valid within
      split
      next =>
        obtain ⟨_, _, cleared⟩ := (s.setFlag .lockGained).relockClear_touches
        simp only [State.gainLock, State.referenceEvents_tracker, cleared]
        exact h.gained on t low high
      next few => exact h.counted locking (by omega) t low high

theorem referenceInLocked_inv (h : s.tracker.Inv) (on : s.tracker.lockState ≠ .off) :
    (s.referenceInLocked t p).tracker.Inv := by
  unfold State.referenceInLocked
  split
  · exact h.seekFrom on t
  next valid =>
    split
    next =>
      obtain ⟨low, high⟩ := toNat_of_validPeriod valid
      exact h.lockingFrom on t low high
    next within =>
      obtain ⟨low, high⟩ := updatedPeriod_inRange h valid within
      exact h.lockedAt on t low high

theorem referenceInCoasting_inv (h : s.tracker.Inv) (on : s.tracker.lockState ≠ .off) :
    (s.referenceInCoasting t p).tracker.Inv := by
  unfold State.referenceInCoasting
  split
  · exact h.withRole fun _ => rfl
  next valid =>
    split
    next =>
      obtain ⟨low, high⟩ := toNat_of_validPeriod valid
      exact h.lockingFrom on t low high
    next within =>
      obtain ⟨low, high⟩ := updatedPeriod_inRange h valid within
      exact h.lockedAt on t low high

theorem referenceEdge_inv (h : s.tracker.Inv) : (s.referenceEdge t).tracker.Inv := by
  unfold State.referenceEdge
  split
  · exact h
  next _ lost => exact h.seekFrom (by simp [lost]) t
  next none' _ _ => exact h.firstReference none' t
  next seeking _ => exact referenceInSeeking_inv h (by simp [seeking])
  next locking _ => exact referenceInLocking_inv h locking
  next locked _ => exact referenceInLocked_inv h (by simp [locked])
  next coasting _ => exact referenceInCoasting_inv h (by simp [coasting])

theorem mainsTransition_inv (h : s.tracker.Inv) (rising : Bool) : (s.mainsTransition rising).tracker.Inv := by
  simp only [State.mainsTransition]
  split
  · exact h
  · split
    · unfold State.considerEdge
      split
      · simp only [State.acceptEdge]
        split
        · exact Tracker.Inv.withRole (tr := s.tracker) h fun _ => rfl
        · refine referenceEdge_inv ?_
          exact Tracker.Inv.afterReference (tr := s.tracker) h
      · exact h
    · exact h

/-! ### The expiries -/

theorem takeLockExpiry_inv (h : s.tracker.Inv) : s.takeLockExpiry.tracker.Inv := by
  unfold State.takeLockExpiry
  split
  next locked _ _ period => exact h.coastStep (by simp [locked]) _ period le_rfl (by decide)
  · exact h

theorem takeCoastExpiry_inv (h : s.tracker.Inv) : s.takeCoastExpiry.tracker.Inv := by
  unfold State.takeCoastExpiry
  split
  next coasting _ _ period =>
    obtain ⟨-, -, -, -, -, -, -, -, limit, -, -, counting, -⟩ := id h
    obtain ⟨low, high⟩ := counting coasting
    split
    · exact h.coastStep (by simp [coasting]) _ period (by omega) (by omega)
    · exact h.loseLock (by simp [coasting]) _ period (by omega) (by omega)
  · exact h

theorem takeTrackerExpiry_inv (h : s.tracker.Inv) : s.takeTrackerExpiry.tracker.Inv := by
  unfold State.takeTrackerExpiry
  split
  · exact takeLockExpiry_inv h
  · exact takeCoastExpiry_inv h
  · exact h

/-- The microsecond moves the tracker by its expiry alone. -/
theorem tickMicrosecond_tracker_inv (h : s.tracker.Inv) : s.tickMicrosecond.tracker.Inv := by
  unfold State.tickMicrosecond
  split
  · exact h
  · obtain ⟨_, _, _, tick⟩ := s.takeTick_touches
    obtain ⟨_, _, stales⟩ := s.takeTick.takeTrackerExpiry.takeStales_touches
    obtain ⟨_, misses⟩ := s.takeTick.takeTrackerExpiry.takeStales.takeMisses_touches
    rw [State.advance_tracker, State.settle, misses, stales]
    refine takeTrackerExpiry_inv ?_
    rw [tick]
    exact h

/-! ### Control records -/

theorem trackerSettings_inv (h : s.tracker.Inv) (m : EdgeMode) {n : Nat} (low : 1 ≤ n) (high : n ≤ 15) :
    (s.trackerSettings m n).tracker.Inv := by
  unfold State.trackerSettings
  split
  · exact h.withCoastLimit low high
  · exact tracker_restarted_inv s.tracker m low high

theorem acceptConfiguration_tracker (s : State) (w : Words8) (k : Nat) (b : Bool) :
    (s.acceptConfiguration w k b).tracker = s.tracker := by
  obtain ⟨_, _, h⟩ := s.acceptConfiguration_touches w k b
  rw [h]

/-- Of the control records only MAINS and RESTART reach the tracker (R49, R160). -/
theorem judgeRecord_tracker_inv (h : s.tracker.Inv) (w : Words8) : (s.judgeRecord w).tracker.Inv := by
  unfold State.judgeRecord
  split
  · obtain ⟨_, _, _, _, same⟩ := s.judgeWindows_touches w
    rw [same]; exact h
  · obtain ⟨_, _, _, _, _, _, same⟩ := s.judgeRadio_touches w
    rw [same]; exact h
  · obtain ⟨_, _, same⟩ := s.judgeRates_touches w 3 0
    rw [same]; exact h
  · obtain ⟨_, _, same⟩ := s.judgeRates_touches w 4 8
    rw [same]; exact h
  · obtain ⟨low, high⟩ := atLeastOne_field w.w2 8 4 15 (by decide) (by decide)
    refine trackerSettings_inv ?_ _ low high
    rw [← acceptConfiguration_tracker s w 5 (field w.w2 8 4 == 0)] at h
    exact h
  · obtain ⟨_, _, _, same⟩ := s.judgeMap_touches w
    rw [same]; exact h
  · obtain ⟨_, _, _, same⟩ := s.judgeNeighbour_touches w
    rw [same]; exact h
  · obtain ⟨_, _, same⟩ := s.judgeShaping_touches w
    rw [same]; exact h
  · obtain ⟨_, _, _, same⟩ := s.judgeKeepalive_touches w
    rw [same]; exact h
  · exact h
  · obtain ⟨_, _, _, _, _, same⟩ := s.judgeClear_touches w
    rw [same]; exact h
  · exact tracker_reset_inv
  · exact h

/-- Of the transfers only a control record reaches the tracker. -/
theorem takeTransfer_tracker_inv (h : s.tracker.Inv) (x : Transfer) : (s.takeTransfer x).tracker.Inv := by
  have course := taking s x
  generalize s.takeTransfer x = u at course ⊢
  cases course with
  | refused => exact h
  | passed => unfold State.passThrough; split <;> exact h
  | @read tag addr ws => obtain ⟨_, _, _, _, same⟩ := s.takeRead_touches tag addr ws; rw [same]; exact h
  | @txWrite addr words => obtain ⟨_, same⟩ := s.takeTxWrite_touches addr words; rw [same]; exact h
  | @rxWrite addr words => obtain ⟨_, same⟩ := s.takeRxWrite_touches addr words; rw [same]; exact h
  | otherWrite => exact h
  | @cpuWrite addr words =>
    obtain ⟨_, _, same⟩ := (s.forward (forwardedWrite .cpu addr words)).abandonments_touches addr words.length
    rw [same]; exact h
  | @record addr w =>
    by_cases sum : w.sum = 0#32
    · rw [checkRecord_of_sum sum]; exact judgeRecord_tracker_inv (s := s.carried addr w) h w
    · rw [checkRecord_of_sum_ne sum]; exact h

end

/-! ### Every command -/

theorem startFold_tracker (s : State) : s.startFold.tracker = s.tracker := by
  obtain ⟨_, _, _, h⟩ := s.startFold_touches
  rw [h]

theorem endFoldIf_tracker (s : State) (b : Bool) : (s.endFoldIf b).tracker = s.tracker := by
  obtain ⟨_, _, _, h⟩ := s.endFoldIf_touches b
  rw [h]

/-- Every effect keeps the tracker's invariant. -/
theorem Effect.keeps_tracker_inv {c : Instr} {s u : State} (inv : s.tracker.Inv) (e : Effect c s u) : u.tracker.Inv := by
  cases e with
  | idle => exact inv
  | pinReset => exact tracker_reset_inv
  | released => exact inv
  | presents => exact takeTransfer_tracker_inv inv _
  | tick => obtain ⟨_, _, _, h⟩ := s.takeTick_touches; rw [h]; exact inv
  | microsecond => exact tickMicrosecond_tracker_inv inv
  | descriptor => obtain ⟨_, _, _, _, h⟩ := s.nextDescriptor_touches; rw [h]; exact inv
  | reportWord => obtain ⟨_, _, h⟩ := s.nextReportWord_touches; rw [h]; exact inv
  | completionWord => obtain ⟨_, _, _, _, _, h⟩ := s.nextCompletion_touches; rw [h]; exact inv
  | record => obtain ⟨_, _, _, _, h⟩ := s.nextRecord_touches; rw [h]; exact inv
  | @admission v => obtain ⟨_, _, _, _, h⟩ := s.endAdmission_touches v; rw [h]; exact inv
  | stale i => obtain ⟨_, _, h⟩ := s.takeStale_touches i; rw [h]; exact inv
  | mainsEdge r => exact mainsTransition_inv inv r
  | lockExpiry => exact takeLockExpiry_inv inv
  | coastExpiry => exact takeCoastExpiry_inv inv
  | @spectralFold f e x =>
    obtain ⟨_, _, _, _, _, h⟩ := s.startFold.foldSpectral_touches f x e.voidMap
    rw [h]; exact startFold_tracker s ▸ inv
  | @receiveFold f e x =>
    obtain ⟨_, _, _, _, _, h⟩ := s.startFold.foldReceive_touches f x e.voidMap e.voidNeighbour
    rw [h]; exact startFold_tracker s ▸ inv
  | @completionFold f e x =>
    obtain ⟨_, _, _, _, _, h⟩ := s.startFold.foldCompletion_touches f x e.voidMap
    rw [h]; exact startFold_tracker s ▸ inv
  | @evidence e =>
    obtain ⟨_, _, h⟩ := s.popMap.serveEvidence_touches e
    rw [endFoldIf_tracker, h]; exact inv
  | age => obtain ⟨_, _, h⟩ := s.popMap.serveAge_touches; rw [h]; exact inv
  | mapClear => exact inv
  | @mapSettings m => obtain ⟨_, _, h⟩ := s.popMap.serveSettings_touches m; rw [h]; exact inv
  | snapshot => obtain ⟨_, h⟩ := s.takeSnapshot_touches; rw [h]; exact inv
  | @beaconUpdate u =>
    obtain ⟨_, _, h⟩ := s.popSchedule.serveUpdate_touches u
    rw [endFoldIf_tracker, h]; exact inv
  | missExpiry i => obtain ⟨_, h⟩ := s.takeMiss_touches i; rw [h]; exact inv
  | @missedBeacon i a => obtain ⟨_, _, h⟩ := s.popSchedule.serveExpiry_touches i a; rw [h]; exact inv
  | neighbourClear => exact inv
  | @neighbourSettings n => obtain ⟨_, h⟩ := s.popSchedule.serveNeighbourSettings_touches n; rw [h]; exact inv

/-- Settles O54: the edges, the expiries, a MAINS record, RESTART and a pin reset each leave a legal tracker, and every other
effect leaves the tracker as it was. -/
theorem trackerStaysLegal : Obligations.TrackerStaysLegal :=
  exec_keeps (P := fun s => s.tracker.Inv) (fun _ h => h) fun _ _ _ => Effect.keeps_tracker_inv

end Sys2Proof.Machine
end

section
/-! The state after reset meets every invariant (O60). -/

namespace Sys2Proof.Machine

theorem map_reset_inv : OccupancyMap.reset.Inv := by
  refine ⟨fun i => by simp [OccupancyMap.reset], ?_, ?_, .inl rfl, by decide, fun _ => nofun⟩
  · have cold : ∀ c ∈ OccupancyMap.reset.cells.toList, ¬ decide (255 ≤ c) = true := by
      intro c hc
      obtain ⟨-, rfl⟩ := Vector.mem_replicate.1 (Vector.mem_toList_iff.1 hc)
      decide
    exact (List.length_eq_zero_iff.2 (List.filter_eq_nil_iff.2 cold)).symm
  · unfold MapSettings.Legal; decide

theorem reset_intakeInv : State.reset.IntakeInv := by
  refine ⟨by decide, ?_, rfl⟩
  simp [State.reset, Intake.reset]

theorem reset_pendingInv : State.reset.PendingInv := by
  simp [State.PendingInv, State.reset, Rewriter.reset, AdmissionUnit.reset]

/-- After reset the lines are as they would be driven: ATTN released and WIN low (R168, R172). -/
theorem reset_driveLines : State.reset.driveLines = State.reset := rfl

theorem reset_reportInv : State.reset.ReportInv := by
  have zero : ∀ k, State.reset.counter k = 0 := counter_of_reset rfl
  rw [← reset_driveLines]
  exact reportInv_driveLines ⟨fun k => by simp [zero k], fun n _ => by simp [State.reset, Report.reset], Nat.zero_le 3⟩

theorem reset_vacant : Vacant State.reset := by
  refine ⟨rfl, rfl, nofun, ?_, rfl, rfl, fun _ _ => nofun, fun _ _ => nofun⟩
  simp [State.reset, Schedule.reset]

/-- Settles O60: block by block, at the reset values. -/
theorem resetMeetsTheInvariants : Obligations.ResetMeetsTheInvariants :=
  ⟨map_reset_inv, tracker_reset_inv, reset_intakeInv, schedule_reset_inv, reset_pendingInv,
    policyInv_of_reset rfl rfl rfl rfl rfl, reset_reportInv, (unconfiguredEmpty_iff _).2 fun _ => reset_vacant⟩

end Sys2Proof.Machine
end

section
/-! Phase bins (O30, O31): a bin is the run of phases from its beginning to that of the next bin, and a phase span is the set of the
bins that its interval's microseconds lie in. -/

namespace Sys2Proof.Machine

/-! ### Bins and their beginnings (R43, R44) -/

/-- A bin begins at ceil(b × P / 64). -/
theorem binStart_eq (p b : Nat) : binStart p b = (b * p + 63) / 64 := rfl

theorem binStart_le_iff (p b d : Nat) : binStart p b ≤ d ↔ b * p ≤ d * 64 := by
  rw [binStart_eq]
  omega

/-- A phase lies at or past the beginning of a bin exactly when its own bin is that one or a later one. -/
theorem le_binOf_iff {p : Nat} (pos : 0 < p) (b d : Nat) : b ≤ binOf p d ↔ binStart p b ≤ d := by
  rw [binStart_le_iff]
  exact Nat.le_div_iff_mul_le pos

theorem binOf_lt {p d : Nat} (below : d < p) : binOf p d < 64 :=
  (Nat.div_lt_iff_lt_mul (by omega)).2 (by omega)

theorem binOf_mono (p : Nat) {d e : Nat} (le : d ≤ e) : binOf p d ≤ binOf p e := Nat.div_le_div_right (by omega)

/-- A bin is its own phases' (R44): it begins before the next one does, when the period is 64 or more. -/
theorem binStart_strictMono {p : Nat} (wide : 64 ≤ p) {b c : Nat} (lt : b < c) : binStart p b < binStart p c := by
  have : (b + 1) * p ≤ c * p := Nat.mul_le_mul_right p lt
  rw [binStart_eq, binStart_eq]
  have : (b + 1) * p = b * p + p := Nat.succ_mul b p
  omega

theorem binOf_binStart {p : Nat} (wide : 64 ≤ p) (b : Nat) : binOf p (binStart p b) = b := by
  refine le_antisymm ?_ ((le_binOf_iff (by omega) _ _).2 le_rfl)
  by_contra later
  have next := (le_binOf_iff (p := p) (by omega) (b + 1) (binStart p b)).1 (by omega)
  have : binStart p b < binStart p (b + 1) := binStart_strictMono wide (Nat.lt_succ_self b)
  omega

theorem binStart_lt {p b : Nat} (wide : 64 ≤ p) (last : b < 64) : binStart p b < p := by
  have := binStart_strictMono wide last
  have : binStart p 64 = p := by rw [binStart_eq]; omega
  omega

/-- A phase lies in a bin exactly from its beginning to that of the next bin. -/
theorem binOf_eq_iff {p : Nat} (pos : 0 < p) (b d : Nat) : binOf p d = b ↔ binStart p b ≤ d ∧ d < binStart p (b + 1) := by
  have here := le_binOf_iff pos b d
  have next := le_binOf_iff pos (b + 1) d
  omega

/-! ### The phase of an Air Time (R43) -/

theorem Phase.phaseOf_eq {ph : Phase} (pos : 1 ≤ ph.period) (t : Time) :
    (ph.phaseOf t : Int) = (t - ph.ref).toInt % (ph.period : Int) :=
  Int.toNat_of_nonneg (Int.emod_nonneg _ (by omega))

theorem Phase.phaseOf_lt {ph : Phase} (pos : 1 ≤ ph.period) (t : Time) : ph.phaseOf t < ph.period := by
  have := Int.emod_lt_of_pos (t - ph.ref).toInt (b := (ph.period : Int)) (by omega)
  have := Phase.phaseOf_eq pos t
  omega

/-- The bin of an Air Time as the statements write it. -/
theorem Phase.bin_eq_binAt {ph : Phase} (pos : 1 ≤ ph.period) (t : Time) : ph.bin t = binAt ph.ref ph.period t := by
  unfold Phase.bin binOf binAt
  rw [← Phase.phaseOf_eq pos t]
  norm_cast

/-- Settles O30: a bin's phases by its beginning and the next one's, and the bin of an Air Time by its phase. -/
theorem binsAndTheirBeginningsAgree : Obligations.BinsAndTheirBeginningsAgree := by
  refine ⟨fun p d b wide below last => ?_, fun p d below => binOf_lt below, fun ph t pos => ?_⟩
  · rw [binOf_eq_iff (by omega), binStart_eq, binStart_eq]
    constructor
    · exact fun ⟨low, high⟩ => ⟨low, fun _ => high⟩
    · rintro ⟨low, high⟩
      refine ⟨low, ?_⟩
      by_cases h : b < 63
      · exact high h
      · obtain rfl : b = 63 := by omega
        omega
  · exact ⟨Phase.bin_eq_binAt pos t, Phase.phaseOf_eq pos t, Phase.phaseOf_lt pos t⟩

/-! ### Phase spans (R58) -/

theorem Span.full_has (b : Nat) : Span.full.has b = true :=
  decide_eq_true (Nat.mod_lt _ (by decide))

/-- The bins of a run: between its ends, or past one of them when it wraps from 63 to 0. -/
theorem Span.run_has_iff {b c e : Nat} (bin : b < 64) (first : c < 64) (last : e < 64) :
    (Span.run c e).has b = true ↔ (c ≤ b ∧ b ≤ e) ∨ (e < c ∧ (c ≤ b ∨ b ≤ e)) := by
  have held : (Span.run c e).has b = true ↔ (b + 64 - c) % 64 < (e + 64 - c) % 64 + 1 := decide_eq_true_iff
  have distance : ∀ x, x < 64 → (x + 64 - c) % 64 = if c ≤ x then x - c else x + 64 - c := by
    intro x hx
    split <;> omega
  rw [held, distance b bin, distance e last]
  split <;> split <;> omega

/-- A microsecond of an interval moves the signed difference on, up to the half-way point of Air Time (R18). -/
theorem toInt_later {a r : Time} {j : Nat} (near : (a - r).toInt + j < 2147483648) :
    (a + BitVec.ofNat 32 j - r).toInt = (a - r).toInt + j := by
  have low := BitVec.le_toInt (a - r)
  have moved : a + BitVec.ofNat 32 j - r = (a - r) + BitVec.ofNat 32 j := add_sub_right_comm a _ r
  rw [moved, BitVec.toInt_add, BitVec.toInt_ofNat', Int.add_bmod_bmod, Int.bmod_eq_of_le] <;> omega

/-- The phases of an interval follow one another, from that of its first microsecond. -/
theorem Phase.phaseOf_later {ph : Phase} (pos : 1 ≤ ph.period) {a : Time} {j : Nat}
    (near : (a - ph.ref).toInt + j < 2147483648) :
    ph.phaseOf (a + BitVec.ofNat 32 j) = (ph.phaseOf a + j) % ph.period := by
  zify
  rw [Phase.phaseOf_eq pos, Phase.phaseOf_eq pos, toInt_later near, Int.emod_add_emod]

/-- A bin is reached within n microseconds from phase d exactly when it is d's own or its beginning is passed, in d's own cycle or
in the next. -/
theorem bin_reached_iff {p d n b : Nat} (wide : 64 ≤ p) (below : d < p) (some' : 1 ≤ n) (bin : b < 64) :
    (∃ j, j < n ∧ b = binOf p ((d + j) % p)) ↔
      b = binOf p d ∨ (d < binStart p b ∧ binStart p b < d + n) ∨ binStart p b + p < d + n := by
  have inCycle := binStart_lt wide bin
  constructor
  · rintro ⟨j, hj, reached⟩
    have begun := (le_binOf_iff (by omega) b _).1 reached.le
    have cycle : (d + j) % p + p * ((d + j) / p) = d + j := Nat.mod_add_div _ _
    by_cases own : d + j < p
    · rw [Nat.mod_eq_of_lt own] at begun reached
      have mono := binOf_mono p (show d ≤ d + j by omega)
      have later := le_binOf_iff (p := p) (by omega) b d
      omega
    · have : p * 1 ≤ p * ((d + j) / p) := Nat.mul_le_mul_left p (Nat.div_pos (by omega) (by omega))
      omega
  · rintro (rfl | ⟨after', before'⟩ | next)
    · exact ⟨0, by omega, by rw [Nat.add_zero, Nat.mod_eq_of_lt below]⟩
    · refine ⟨binStart p b - d, by omega, ?_⟩
      rw [show d + (binStart p b - d) = binStart p b by omega, Nat.mod_eq_of_lt inCycle, binOf_binStart wide]
    · refine ⟨binStart p b + p - d, by omega, ?_⟩
      rw [show d + (binStart p b + p - d) = binStart p b + p by omega, Nat.add_mod_right, Nat.mod_eq_of_lt inCycle,
        binOf_binStart wide]

/-- The span of an interval by its length and the phase of its start (R58). -/
theorem Phase.span_has_iff {ph : Phase} (wide : 64 ≤ ph.period) {a : Time} {n b : Nat} (some' : 1 ≤ n) (bin : b < 64)
    (near : (a - ph.ref).toInt + n ≤ 2147483648) : (ph.span a n).has b = true ↔
      b = binOf ph.period (ph.phaseOf a) ∨ (ph.phaseOf a < binStart ph.period b ∧ binStart ph.period b < ph.phaseOf a + n) ∨
        binStart ph.period b + ph.period < ph.phaseOf a + n := by
  have below := Phase.phaseOf_lt (show 1 ≤ ph.period by omega) a
  have lastPhase : ph.phaseOf (later a (n - 1)) = (ph.phaseOf a + (n - 1)) % ph.period :=
    Phase.phaseOf_later (by omega) (by omega)
  unfold Phase.span Phase.bin
  rw [lastPhase]
  generalize ph.phaseOf a = d at below ⊢
  generalize ph.period = p at wide below ⊢
  have ownBin := binOf_lt below
  have inCycle := binStart_lt wide bin
  have here := le_binOf_iff (p := p) (by omega) b d
  have own := (le_binOf_iff (p := p) (by omega) _ d).1 le_rfl
  have order : b < binOf p d → binStart p b < binStart p (binOf p d) := binStart_strictMono wide
  split
  next long => simp only [Span.full_has, true_iff]; omega
  next short =>
    split
    next round => simp only [Span.full_has, true_iff]; omega
    next within =>
      have last := le_binOf_iff (p := p) (by omega) b ((d + (n - 1)) % p)
      have lastOwn := le_binOf_iff (p := p) (by omega) (binOf p d) ((d + (n - 1)) % p)
      rw [Span.run_has_iff bin ownBin (binOf_lt (Nat.mod_lt _ (by omega)))]
      by_cases cycle : d + (n - 1) < p
      · rw [Nat.mod_eq_of_lt cycle] at last lastOwn ⊢
        omega
      · rw [show (d + (n - 1)) % p = d + (n - 1) - p by
          rw [Nat.mod_eq_sub_mod (by omega), Nat.mod_eq_of_lt (by omega)]] at last lastOwn ⊢
        omega

/-- Settles O31: the span holds the bins that are reached within the interval, microsecond by microsecond. -/
theorem phaseSpanIsTheBinsOfTheInterval : Obligations.PhaseSpanIsTheBinsOfTheInterval := by
  intro ph a n b low high some' bin near
  have pos : 1 ≤ ph.period := by omega
  have micro : ∀ j, j < n →
      binAt ph.ref ph.period (a + BitVec.ofNat 32 j) = binOf ph.period ((ph.phaseOf a + j) % ph.period) := by
    intro j hj
    rw [← Phase.bin_eq_binAt pos, Phase.bin, Phase.phaseOf_later pos (by omega)]
  rw [Phase.span_has_iff (by omega) some' bin near, ← bin_reached_iff (by omega) (Phase.phaseOf_lt pos a) some' bin]
  exact exists_congr fun j => and_congr_right fun hj => by rw [micro j hj]

end Sys2Proof.Machine
end

section
/-! The candidates of the search (O23): bin beginnings and window ends in increasing order, without the radio time 0. -/

namespace Sys2Proof.Machine

/-! ### Increasing lists (R118) -/

theorem mem_insertOnce {o x : Nat} {l : List Nat} : x ∈ insertOnce o l ↔ x = o ∨ x ∈ l := by
  induction l with
  | nil => simp [insertOnce]
  | cons a rest ih =>
    unfold insertOnce
    split
    · simp
    · split
      next same => subst same; simp
      next => simp [ih, or_left_comm]

theorem sorted_insertOnce (o : Nat) {l : List Nat} (sorted : l.Pairwise (· < ·)) : (insertOnce o l).Pairwise (· < ·) := by
  induction sorted with
  | nil => simp [insertOnce]
  | @cons a rest least sorted ih =>
    unfold insertOnce
    split
    next less =>
      refine .cons (fun x hx => ?_) (.cons least sorted)
      obtain rfl | hx := List.mem_cons.1 hx
      · exact less
      · exact less.trans (least x hx)
    next =>
      split
      · exact .cons least sorted
      · refine .cons (fun x hx => ?_) ih
        obtain rfl | hx := mem_insertOnce.1 hx
        · omega
        · exact least x hx

theorem mem_foldl_insertOnce {new l : List Nat} {x : Nat} :
    x ∈ new.foldl (fun l o => insertOnce o l) l ↔ x ∈ new ∨ x ∈ l := by
  induction new generalizing l with
  | nil => simp
  | cons o new ih => rw [List.foldl_cons, ih, mem_insertOnce, List.mem_cons, or_left_comm, or_assoc]

theorem sorted_foldl_insertOnce (new : List Nat) {l : List Nat} (sorted : l.Pairwise (· < ·)) :
    (new.foldl (fun l o => insertOnce o l) l).Pairwise (· < ·) := by
  induction new generalizing l with
  | nil => exact sorted
  | cons o new ih => exact ih (sorted_insertOnce o sorted)

/-! ### Bin beginnings (R117) -/

section
variable {v : AdmissionView} {s0 : Time}

/-- A later bin, of this cycle or a later one, begins later. -/
theorem binStart_cycle_lt {p k j b c : Nat} (wide : 64 ≤ p) (first : b < 64) (order : k < j ∨ k = j ∧ b < c) :
    k * p + binStart p b < j * p + binStart p c := by
  obtain later | ⟨rfl, later⟩ := order
  · have := binStart_lt wide first
    have : (k + 1) * p ≤ j * p := Nat.mul_le_mul_right p later
    have : (k + 1) * p = k * p + p := Nat.succ_mul k p
    omega
  · have := binStart_strictMono wide later
    omega

theorem sorted_binCandidates (wide : ∀ ph, v.phase = some ph → 64 ≤ ph.period) :
    (v.binCandidates s0).Pairwise (· < ·) := by
  unfold AdmissionView.binCandidates
  split
  · exact .nil
  next ph available =>
    have wide := wide ph available
    have picked : ∀ {k b o : Nat}, (if ph.phaseOf s0 < k * ph.period + binStart ph.period b ∧
        k * ph.period + binStart ph.period b ≤ ph.phaseOf s0 + v.shaping.holdLimit then
          some (k * ph.period + binStart ph.period b - ph.phaseOf s0) else none) = some o →
        k * ph.period + binStart ph.period b = ph.phaseOf s0 + o := by
      intro k b o h
      split at h
      · cases h; omega
      · cases h
    dsimp only
    refine List.pairwise_flatMap.2 ⟨fun k _ => ?_, ?_⟩
    · refine List.pairwise_filterMap.2 (List.pairwise_lt_range.imp_of_mem ?_)
      intro b c hb _ less x hx y hy
      have := binStart_cycle_lt (k := k) (j := k) wide (List.mem_range.1 hb) (.inr ⟨rfl, less⟩)
      have := picked hx
      have := picked hy
      omega
    · refine List.pairwise_lt_range.imp fun {k j} less x hx y hy => ?_
      obtain ⟨b, hb, hx⟩ := List.mem_filterMap.1 hx
      obtain ⟨c, _, hy⟩ := List.mem_filterMap.1 hy
      have := binStart_cycle_lt (c := c) wide (List.mem_range.1 hb) (.inl less)
      have := picked hx
      have := picked hy
      omega

/-- The amounts within the hold limit at which a bin begins. -/
theorem mem_binCandidates (wide : ∀ ph, v.phase = some ph → 64 ≤ ph.period) {o : Nat} : o ∈ v.binCandidates s0 ↔
    1 ≤ o ∧ o ≤ v.shaping.holdLimit ∧ ∃ ph b, v.phase = some ph ∧ b < 64 ∧
      ((s0 - ph.ref).toInt + o) % (ph.period : Int) = ((b * ph.period + 63) / 64 : Nat) := by
  unfold AdmissionView.binCandidates
  split
  next unavailable => simp [unavailable]
  next ph available =>
    have wide := wide ph available
    have cycle : ∀ b, b < 64 → (((s0 - ph.ref).toInt + o) % (ph.period : Int) = ((b * ph.period + 63) / 64 : Nat) ↔
        ∃ k, k * ph.period + binStart ph.period b = ph.phaseOf s0 + o) := by
      intro b hb
      have := binStart_lt wide hb
      rw [← Int.emod_add_emod, ← Phase.phaseOf_eq (by omega), ← binStart_eq]
      norm_cast
      constructor
      · intro h
        exact ⟨(ph.phaseOf s0 + o) / ph.period, by rw [← h]; exact Nat.div_add_mod' _ _⟩
      · rintro ⟨k, h⟩
        rw [← h, Nat.mul_add_mod_self_right, Nat.mod_eq_of_lt this]
    simp only [available, List.mem_flatMap, List.mem_filterMap, List.mem_range]
    constructor
    · rintro ⟨k, -, b, hb, picked⟩
      split at picked
      next within =>
        cases picked
        refine ⟨by omega, by omega, ph, b, rfl, hb, (cycle b hb).2 ⟨k, by omega⟩⟩
      · cases picked
    · rintro ⟨low, high, _, b, same, hb, begins⟩
      cases same
      obtain ⟨k, hk⟩ := (cycle b hb).1 begins
      refine ⟨k, Nat.lt_succ_of_le ((Nat.le_div_iff_mul_le (by omega)).2 (by omega)), b, hb, ?_⟩
      rw [if_pos (by omega)]
      congr 1
      omega

/-! ### Window ends (R98, R118) -/

/-- The amounts within the hold limit at which a window that ends after now ends. -/
theorem mem_endsAfter {e : Neighbour} (regular : 1 ≤ e.interval) {g : NeighbourFields} {now a : Time} {h o : Nat} :
    o ∈ e.endsAfter g now a h ↔ 1 ≤ o ∧ o ≤ h ∧ ∃ k : Nat,
      (now - e.anchor).toInt < (k * (e.interval * 1024) + e.airtime + g.guardAfter : Nat) ∧
      (now - e.anchor).toInt + (a - now).toInt + o = (k * (e.interval * 1024) + e.airtime + g.guardAfter : Nat) := by
  have pos : 0 < e.period := by unfold Neighbour.period; omega
  have windowEnd : ∀ k : Nat, k * (e.interval * 1024) + e.airtime + g.guardAfter = k * e.period + e.reach g :=
    fun k => Nat.add_assoc _ _ _
  have place : e.placeOf now a = (now - e.anchor).toInt + (a - now).toInt := rfl
  obtain ⟨firstNow, firstPlace⟩ := e.firstWindow_ends g now (e.placeOf now a) pos
  have least := e.firstWindow_least g now (e.placeOf now a) pos
  simp only [Neighbour.endsAfter, List.mem_filterMap, List.mem_range, windowEnd, ← place]
  generalize e.firstWindow g now (e.placeOf now a) = first at firstNow firstPlace least ⊢
  generalize e.placeOf now a = x at firstPlace least ⊢
  unfold sdiff at firstNow least
  constructor
  · rintro ⟨j, -, picked⟩
    split at picked
    next within =>
      cases picked
      have later : first * e.period ≤ (first + j) * e.period := Nat.mul_le_mul_right _ (Nat.le_add_right _ _)
      refine ⟨by omega, by omega, first + j, ?_, by omega⟩
      push_cast at later ⊢
      zify at later
      omega
    · cases picked
  · rintro ⟨low, high, k, afterNow, ends⟩
    have order : first ≤ k := least k (by push_cast at afterNow; exact afterNow) (by push_cast at ends; omega)
    obtain ⟨j, rfl⟩ := Nat.exists_eq_add_of_le order
    refine ⟨j, Nat.lt_succ_of_le ((Nat.le_div_iff_mul_le pos).2 ?_), ?_⟩
    · rw [Nat.add_mul] at ends
      push_cast at ends
      zify
      omega
    · rw [if_pos (by omega)]
      congr 1
      omega

theorem mem_windowCandidates (regular : ∀ i : Fin 8, ∀ e, v.slots[i] = some e → 1 ≤ e.interval) {o : Nat} :
    o ∈ v.windowCandidates s0 ↔ 1 ≤ o ∧ o ≤ v.shaping.holdLimit ∧ ∃ i : Fin 8, ∃ e, v.slots[i] = some e ∧
      3 ≤ e.confidence ∧ ∃ k : Nat,
        (v.now - e.anchor).toInt < (k * (e.interval * 1024) + e.airtime + v.guards.guardAfter : Nat) ∧
        (v.now - e.anchor).toInt + (s0 - v.now).toInt + o =
          (k * (e.interval * 1024) + e.airtime + v.guards.guardAfter : Nat) := by
  simp only [AdmissionView.windowCandidates, List.mem_flatMap, mem_trackedEntries]
  constructor
  · rintro ⟨e, ⟨i, held, tracked⟩, listed⟩
    obtain ⟨low, high, ends⟩ := (mem_endsAfter (regular i e held)).1 listed
    exact ⟨low, high, i, e, held, tracked, ends⟩
  · rintro ⟨low, high, i, e, held, tracked, ends⟩
    exact ⟨e, ⟨i, held, tracked⟩, (mem_endsAfter (regular i e held)).2 ⟨low, high, ends⟩⟩

/-! ### The candidates -/

theorem mem_mergedCandidates {o : Nat} :
    o ∈ v.mergedCandidates s0 ↔ o ∈ v.binCandidates s0 ∨ o ∈ v.windowCandidates s0 := by
  unfold AdmissionView.mergedCandidates
  rw [mem_foldl_insertOnce, or_comm]

theorem isZero_iff (o : Nat) : v.isZero s0 o = true ↔ s0 + BitVec.ofNat 32 o + v.offset = 0#32 := beq_iff_eq

/-- A merged candidate stays unless its radio time would be 0, when the next microsecond stands for it (R119). -/
theorem mem_candidates {o : Nat} : o ∈ v.candidates s0 ↔
    (o ∈ v.mergedCandidates s0 ∧ s0 + BitVec.ofNat 32 o + v.offset ≠ 0#32) ∨
    (1 ≤ o ∧ o ≤ v.shaping.holdLimit ∧ o - 1 ∈ v.mergedCandidates s0 ∧ s0 + BitVec.ofNat 32 (o - 1) + v.offset = 0#32) := by
  unfold AdmissionView.candidates
  simp only [mem_foldl_insertOnce, List.mem_filterMap, List.mem_filter, isZero_iff, Bool.not_eq_true', ← Bool.not_eq_true]
  rw [or_comm]
  refine or_congr Iff.rfl ⟨?_, ?_⟩
  · rintro ⟨q, ⟨listed, zero⟩, moved⟩
    split at moved
    next within => cases moved; exact ⟨by omega, within, listed, zero⟩
    · cases moved
  · rintro ⟨low, high, listed, zero⟩
    exact ⟨o - 1, ⟨listed, zero⟩, by rw [if_pos (by omega)]; congr 1; omega⟩

end

/-- Settles O23: both kinds of candidates are put in order once each, and those at radio time 0 give way. -/
theorem searchCandidates : Obligations.SearchCandidates := by
  intro v s0 regular wide _
  have merged : (v.mergedCandidates s0).Pairwise (· < ·) := sorted_foldl_insertOnce _ (sorted_binCandidates wide)
  refine ⟨sorted_foldl_insertOnce _ (merged.filter _), fun raw hraw o => ?_⟩
  have rawIff : ∀ q, q ∈ v.mergedCandidates s0 ↔ raw q := by
    intro q
    rw [mem_mergedCandidates, mem_binCandidates wide, mem_windowCandidates regular, hraw, ← and_or_left, ← and_or_left]
  rw [mem_candidates, rawIff, rawIff]

end Sys2Proof.Machine
end

section
/-! MAINS edges (O43, O44): which transitions are edges, the tests an edge passes, and what an accepted edge does. -/

namespace Sys2Proof.Machine

/-! ### The tests of an edge (R30 to R32) -/

section
variable {s : State} {rising : Bool}

theorem EdgeMode.considers_iff (m : EdgeMode) (rising : Bool) : m.considers rising = true ↔
    m = .both ∨ m = .rising ∧ rising = true ∨ m = .falling ∧ rising = false := by
  cases m <;> simp [EdgeMode.considers]

theorem Tracker.isEdge_iff (tr : Tracker) (t : Time) :
    tr.isEdge t = true ↔ ∀ t0, tr.lastTransition = some t0 → 100 ≤ (t - t0).toInt := by
  unfold Tracker.isEdge
  split
  next none' => simp [none']
  next t0 last => simp [last, edgeSpacing, sdiff]

/-- A transition while RESET is released is considered exactly when it is an edge of a direction that the edge mode considers. -/
theorem considered_iff (released : s.bus.resetAsserted = false) :
    Considered rising s ↔ (s.tracker.isEdge s.air.airTime && s.tracker.edgeMode.considers rising) = true := by
  rw [Bool.and_eq_true, Tracker.isEdge_iff, EdgeMode.considers_iff]
  exact and_iff_right released

theorem spacingHolds_iff (s : State) : SpacingHolds s ↔ s.tracker.spacingOk s.air.airTime = true := by
  unfold SpacingHolds Tracker.spacingOk Tracker.minimumSpacing
  cases accepted : s.tracker.lastAccepted with
  | none => simp
  | some t0 => cases period : s.tracker.period <;> simp [sdiff]

theorem windowHolds_iff (s : State) : WindowHolds s ↔ s.tracker.windowOk s.air.airTime = true := by
  unfold WindowHolds Tracker.windowOk
  split
  next p r middle tested period ref =>
    have tests : s.tracker.lockState = .locking ∨ s.tracker.lockState = .locked ∨ s.tracker.lockState = .coasting := by
      revert tested
      cases s.tracker.lockState <;> simp [LockState.testsMiddle]
    simp [middle, tests, period, ref, sdiff]
  next other =>
    refine ⟨fun _ => rfl, fun _ middle tests p r period ref => absurd ref ?_⟩
    refine fun ref => other p r middle ?_ period ref
    obtain h | h | h := tests <;> rw [h] <;> rfl

/-! ### What a transition does -/

/-- The record of a transition (R30). -/
def State.transitioned (s : State) (rising : Bool) : State :=
  { s with tracker.mainsHigh := rising, tracker.lastTransition := some s.air.airTime }

theorem mainsTransition_reset (asserted : s.bus.resetAsserted = true) :
    s.mainsTransition rising = { s with tracker.mainsHigh := rising } := by
  simp [State.mainsTransition, asserted]

theorem mainsTransition_unconsidered (released : s.bus.resetAsserted = false) (not' : ¬ Considered rising s) :
    s.mainsTransition rising = s.transitioned rising := by
  rw [considered_iff released] at not'
  simp only [State.mainsTransition, released, not']
  rfl

/-- A considered edge is judged by the two tests of the state it finds. -/
theorem mainsTransition_considered (considered : Considered rising s) : s.mainsTransition rising =
    if s.tracker.spacingOk s.air.airTime && s.tracker.windowOk s.air.airTime then
      (s.transitioned rising).acceptEdge s.air.airTime
    else (s.transitioned rising).count .glitch := by
  have released : s.bus.resetAsserted = false := considered.1
  simp only [State.mainsTransition, released, (considered_iff released).1 considered]
  rfl

theorem mainsTransition_glitch (considered : Considered rising s) (fails : ¬ (SpacingHolds s ∧ WindowHolds s)) :
    s.mainsTransition rising = (s.transitioned rising).count .glitch := by
  rw [spacingHolds_iff, windowHolds_iff, ← Bool.and_eq_true] at fails
  rw [mainsTransition_considered considered, if_neg fails]

theorem mainsTransition_accepted (considered : Considered rising s) (spacing : SpacingHolds s) (window : WindowHolds s) :
    s.mainsTransition rising = (s.transitioned rising).acceptEdge s.air.airTime := by
  have passes := Bool.and_eq_true_iff.2 ⟨(spacingHolds_iff s).1 spacing, (windowHolds_iff s).1 window⟩
  rw [mainsTransition_considered considered, if_pos passes]

theorem acceptEdge_middle (middle : s.tracker.role = .middle) (t : Time) : s.acceptEdge t =
    { s.count .acceptedEdge with tracker := { s.tracker with lastAccepted := some t, role := .reference } } := by
  simp [State.acceptEdge, middle]

/-- Settles O43: a transition by RESET, by the edge mode and by the two tests. -/
theorem mainsEdgeIsJudged : Obligations.MainsEdgeIsJudged := by
  intro s rising
  refine ⟨(s.mainsTransition rising).driveLines, rfl, fun asserted => ?_, fun released not' => ?_, fun considered =>
    ⟨fun fails => ?_, fun spacing window middle => ?_⟩⟩
  · rw [mainsTransition_reset asserted]
    exact ⟨rfl, OnlyIn.driveLines (by simp [onlyIn_iff]) (by simp), ((Reported.refl s).congr rfl rfl).driveLines⟩
  · rw [mainsTransition_unconsidered released not']
    exact ⟨OnlyIn.driveLines (by simp [onlyIn_iff, State.transitioned]) (by simp),
      ((Reported.refl s).congr rfl rfl).driveLines, rfl⟩
  · rw [mainsTransition_glitch considered fails]
    exact ⟨OnlyIn.driveLines (by simp [onlyIn_iff, State.transitioned]) (by simp),
      (((Reported.refl s).congr rfl rfl).count (by simp)).driveLines, rfl⟩
  · rw [mainsTransition_accepted considered spacing window, acceptEdge_middle (s := s.transitioned rising) middle]
    exact ⟨OnlyIn.driveLines (by simp [onlyIn_iff, State.transitioned]) (by simp),
      ((((Reported.refl s).congr rfl rfl).count (t := s.transitioned rising) (by simp)).congr rfl rfl).driveLines, rfl⟩

/-! ### A reference edge (R33 to R37, R40, R41) -/

/-- The state after a reference edge is accepted, before its lock state answers. -/
def State.accepted (s : State) (rising : Bool) (now : Time) : State :=
  { s.count .acceptedEdge with tracker := s.tracker.atReference rising now }

/-- An edge accepted in the role REFERENCE: no middle window is tested, and the lock state answers. -/
theorem mainsTransition_reference (considered : Considered rising s) (spacing : SpacingHolds s)
    (role : s.tracker.role = .reference) :
    s.mainsTransition rising = (s.accepted rising s.air.airTime).referenceEdge s.air.airTime := by
  have window : WindowHolds s := fun middle => by simp [role] at middle
  have role' : (s.transitioned rising).tracker.role = .reference := role
  rw [mainsTransition_accepted considered spacing window]
  simp only [State.acceptEdge, role', EdgeMode.roleAfterReference_eq]
  rfl

theorem inTolerance_iff {p : Int} (valid : 15000 ≤ p) (estimate : Option Nat) : inTolerance estimate p.toNat = true ↔
    ∃ q, estimate = some q ∧ p ≤ q + q / 32 ∧ (q : Int) ≤ p + q / 32 := by
  cases estimate with
  | none => simp [inTolerance]
  | some q =>
    simp only [inTolerance, decide_eq_true_eq, Option.some.injEq, exists_eq_left']
    omega

end

/-- The estimate moved toward a raw period, as the statements write it (R34). -/
theorem updatedPeriod_toNat {p : Int} (valid : 15000 ≤ p) (q : Nat) :
    updatedPeriod q p.toNat = ((q : Int) + (p - q).tdiv 8).toNat := by
  rw [updatedPeriod, Int.toNat_of_nonneg (by omega)]

section
variable {s : State} {now r : Time} {p : Int}

theorem referenceEdge_lost (lost : s.tracker.lockState = .lost) :
    s.referenceEdge now = { s with tracker := s.tracker.seekFrom now } := by
  simp [State.referenceEdge, lost]

theorem referenceEdge_first (seeking : s.tracker.lockState = .seeking) (none' : s.tracker.ref = none) :
    s.referenceEdge now = { s with tracker := { s.tracker with ref := some now } } := by
  simp [State.referenceEdge, seeking, none']

/-- The lock states that hold a reference and answer its raw period. -/
theorem referenceEdge_of_ref (ref : s.tracker.ref = some r) (raw : p = (now - r).toInt) :
    (s.tracker.lockState = .seeking → s.referenceEdge now = s.referenceInSeeking now p) ∧
    (s.tracker.lockState = .locking → s.referenceEdge now = s.referenceInLocking now p) ∧
    (s.tracker.lockState = .locked → s.referenceEdge now = s.referenceInLocked now p) ∧
    (s.tracker.lockState = .coasting → s.referenceEdge now = s.referenceInCoasting now p) := by
  subst raw
  refine ⟨fun h => ?_, fun h => ?_, fun h => ?_, fun h => ?_⟩ <;> simp [State.referenceEdge, h, ref, sdiff]

theorem validPeriod_false (fault : p < 15000 ∨ 22000 < p) : validPeriod p = false := by
  rw [← Bool.not_eq_true, validPeriod_iff]
  omega

/-- A period fault in SEEKING, LOCKING or LOCKED (R33, R35 to R37). -/
theorem referenceEdge_fault (ref : s.tracker.ref = some r) (raw : p = (now - r).toInt) (fault : p < 15000 ∨ 22000 < p)
    (lock : s.tracker.lockState = .seeking ∨ s.tracker.lockState = .locking ∨ s.tracker.lockState = .locked) :
    s.referenceEdge now = { s.count .periodFault with tracker := s.tracker.seekFrom now } := by
  obtain ⟨inSeeking, inLocking, inLocked, -⟩ := referenceEdge_of_ref ref raw
  obtain lock | lock | lock := lock
  · simp [inSeeking lock, State.referenceInSeeking, validPeriod_false fault]
  · simp [inLocking lock, State.referenceInLocking, validPeriod_false fault]
  · simp [inLocked lock, State.referenceInLocked, validPeriod_false fault]

/-- A period fault in COASTING (R40). -/
theorem referenceEdge_coastingFault (ref : s.tracker.ref = some r) (raw : p = (now - r).toInt)
    (fault : p < 15000 ∨ 22000 < p) (lock : s.tracker.lockState = .coasting) :
    s.referenceEdge now = { s.count .periodFault with tracker := { s.tracker with role := .reference } } := by
  simp [(referenceEdge_of_ref ref raw).2.2.2 lock, State.referenceInCoasting, validPeriod_false fault]

/-- A valid raw period that is the first, or out of tolerance (R34 to R37, R40). -/
theorem referenceEdge_locking (ref : s.tracker.ref = some r) (raw : p = (now - r).toInt) (valid : validPeriod p = true)
    (lock : s.tracker.lockState = .seeking ∨ ¬ inTolerance s.tracker.period p.toNat = true ∧
      (s.tracker.lockState = .locking ∨ s.tracker.lockState = .locked ∨ s.tracker.lockState = .coasting)) :
    s.referenceEdge now = { s with tracker := s.tracker.lockingFrom now p.toNat } := by
  obtain ⟨inSeeking, inLocking, inLocked, inCoasting⟩ := referenceEdge_of_ref ref raw
  obtain lock | ⟨out, lock | lock | lock⟩ := lock
  · simp [inSeeking lock, State.referenceInSeeking, valid]
  · simp [inLocking lock, State.referenceInLocking, valid, out]
  · simp [inLocked lock, State.referenceInLocked, valid, out]
  · simp [inCoasting lock, State.referenceInCoasting, valid, out]

section
variable {q : Nat}

/-- LOCKING counts a raw period in tolerance (R36). -/
theorem referenceEdge_counts (ref : s.tracker.ref = some r) (raw : p = (now - r).toInt) (valid : validPeriod p = true)
    (within : inTolerance s.tracker.period p.toNat = true) (period : s.tracker.period = some q)
    (lock : s.tracker.lockState = .locking) (few : s.tracker.lockCount ≤ 2) :
    s.referenceEdge now = { s with tracker := { s.tracker with
      period := some (updatedPeriod q p.toNat), ref := some now, lockCount := s.tracker.lockCount + 1 } } := by
  have more : ¬ 4 ≤ s.tracker.lockCount + 1 := by omega
  rw [(referenceEdge_of_ref ref raw).2.1 lock, State.referenceInLocking, if_neg (by simp [valid]), if_neg (by simp [within]),
    if_neg more, period]
  rfl

/-- LOCKING becomes LOCKED (R36). -/
theorem referenceEdge_gains (ref : s.tracker.ref = some r) (raw : p = (now - r).toInt) (valid : validPeriod p = true)
    (within : inTolerance s.tracker.period p.toNat = true) (period : s.tracker.period = some q)
    (lock : s.tracker.lockState = .locking) (three : s.tracker.lockCount = 3) :
    s.referenceEdge now = s.gainLock now (updatedPeriod q p.toNat) := by
  rw [(referenceEdge_of_ref ref raw).2.1 lock, State.referenceInLocking, if_neg (by simp [valid]), if_neg (by simp [within]),
    if_pos (by omega), period]
  rfl

/-- LOCKED or COASTING in tolerance (R37, R40). -/
theorem referenceEdge_relocks (ref : s.tracker.ref = some r) (raw : p = (now - r).toInt) (valid : validPeriod p = true)
    (within : inTolerance s.tracker.period p.toNat = true) (period : s.tracker.period = some q)
    (lock : s.tracker.lockState = .locked ∨ s.tracker.lockState = .coasting) : s.referenceEdge now =
      ({ s with tracker := s.tracker.lockedAt now (updatedPeriod q p.toNat) } : State).referenceEvents := by
  obtain ⟨-, -, inLocked, inCoasting⟩ := referenceEdge_of_ref ref raw
  obtain lock | lock := lock
  · rw [inLocked lock, State.referenceInLocked, if_neg (by simp [valid]), if_neg (by simp [within]), period]
    rfl
  · rw [inCoasting lock, State.referenceInCoasting, if_neg (by simp [valid]), if_neg (by simp [within]), period]
    rfl

end

/-! ### What a reference edge changes and reports -/

theorem accepted_effect (s : State) (rising : Bool) (now : Time) (x : Tracker) :
    let u := ({ s.accepted rising now with tracker := x } : State).driveLines
    OnlyIn [.tracker, .report] s u ∧ Reported [] [.acceptedEdge] s u ∧ u.tracker = x :=
  ⟨OnlyIn.driveLines (by simp [onlyIn_iff, State.accepted]) (by simp),
    (((Reported.refl s).count (by simp)).congr rfl rfl).driveLines, rfl⟩

theorem fault_effect (s : State) (rising : Bool) (now : Time) (x : Tracker) :
    let u := ({ (s.accepted rising now).count .periodFault with tracker := x } : State).driveLines
    OnlyIn [.tracker, .report] s u ∧ Reported [] [.acceptedEdge, .periodFault] s u ∧ u.tracker = x :=
  ⟨OnlyIn.driveLines (by simp [onlyIn_iff, State.accepted]) (by simp),
    (((((Reported.refl s).count (c := .acceptedEdge) (by simp)).congr rfl rfl).count (t := s.accepted rising now)
      (c := .periodFault) (by simp)).congr rfl rfl).driveLines, rfl⟩

theorem relock_effect (s : State) (rising : Bool) (now : Time) (x : Tracker) :
    let u := ({ s.accepted rising now with tracker := x } : State).referenceEvents.driveLines
    OnlyIn [.tracker, .map, .report] s u ∧ Reported [] [.acceptedEdge] s u ∧ u.tracker = x ∧
      u.map = { s.map with requests := s.map.requests ++ [.age, .snapshot] } := by
  refine ⟨OnlyIn.driveLines (by simp [onlyIn_iff, State.accepted]) (by simp),
    (((Reported.refl s).count (by simp)).congr rfl rfl).driveLines, rfl, ?_⟩
  simp [State.referenceEvents, State.sendMap, State.accepted]

/-- The re-lock clear (R41). -/
theorem State.relockClear_eq (s : State) {clears : Bool}
    (h : clears = true ↔ s.tracker.relockMark = true ∧ s.tracker.edgeMode = .both) : s.relockClear = { s with
      map := { s.map with requests := s.map.requests ++ if clears then [.clear] else [] }
      intake := { s.intake with fifo := s.intake.fifo.map fun e => { e with voidMap := e.voidMap || clears } } } := by
  unfold State.relockClear
  split
  next marked both =>
    rw [h.2 ⟨marked, both⟩]
    simp [State.sendMapClear, State.voidForMap, State.sendMap]
  next other =>
    have keep : clears = false := by
      rw [← Bool.not_eq_true, h]
      rintro ⟨marked, both⟩
      exact other marked both
    simp [keep]

theorem gain_effect (s : State) (rising : Bool) (now : Time) (n : Nat) {clears : Bool}
    (h : clears = true ↔ s.tracker.relockMark = true ∧ s.tracker.edgeMode = .both) :
    let u := ((s.accepted rising now).gainLock now n).driveLines
    OnlyIn [.tracker, .intake, .map, .report] s u ∧ Reported [.lockGained] [.acceptedEdge] s u ∧
      u.tracker = { (s.tracker.atReference rising now).lockedAt now n with lockCount := 4, relockMark := false } ∧
      u.map = { s.map with requests := s.map.requests ++ (if clears then [.clear] else []) ++ [.age, .snapshot] } ∧
      u.intake = { s.intake with fifo := s.intake.fifo.map fun e => { e with voidMap := e.voidMap || clears } } := by
  have cleared := ((s.accepted rising now).setFlag .lockGained).relockClear_eq h
  dsimp only [State.gainLock]
  rw [cleared]
  refine ⟨OnlyIn.driveLines (by simp [onlyIn_iff, State.accepted]) (by simp),
    ((((Reported.refl s).count (by simp)).setFlag .lockGained).congr rfl rfl).driveLines, rfl, ?_, rfl⟩
  simp [State.referenceEvents, State.sendMap, State.accepted]

/-- Settles O44: the accepted edge by the lock state and the raw period. -/
theorem referenceEdgeByLockState : Obligations.ReferenceEdgeByLockState := by
  rintro s rising _ _ considered spacing role rfl rfl
  refine ⟨(s.mainsTransition rising).driveLines, rfl, ?_⟩
  rw [mainsTransition_reference considered spacing role]
  refine ⟨fun lost => ?_, fun seeking none' => ?_, fun r ref p raw => ⟨fun fault => ⟨fun lock => ?_, fun lock => ?_⟩,
    fun low high within hwithin => ⟨fun lock => ?_, fun inside q period n hn =>
      ⟨fun lock few => ?_, fun lock three clears hclears => ?_, fun lock => ?_⟩⟩⟩⟩
  · rw [referenceEdge_lost (s := s.accepted ..) lost]
    exact accepted_effect ..
  · rw [referenceEdge_first (s := s.accepted ..) seeking none']
    exact accepted_effect ..
  · rw [referenceEdge_fault (s := s.accepted ..) ref raw fault lock]
    exact fault_effect ..
  · rw [referenceEdge_coastingFault (s := s.accepted ..) ref raw fault lock]
    exact fault_effect ..
  all_goals
    have valid := (validPeriod_iff p).2 ⟨low, high⟩
    rw [← inTolerance_iff low] at hwithin
  · rw [hwithin] at lock
    rw [referenceEdge_locking (s := s.accepted ..) ref raw valid lock]
    exact accepted_effect ..
  all_goals
    have inside := hwithin.1 inside
    rw [← updatedPeriod_toNat low] at hn
    subst hn
  · rw [referenceEdge_counts (s := s.accepted ..) ref raw valid inside period lock few]
    exact accepted_effect ..
  · rw [referenceEdge_gains (s := s.accepted ..) ref raw valid inside period lock three]
    exact gain_effect s rising _ _ hclears
  · rw [referenceEdge_relocks (s := s.accepted ..) ref raw valid inside period lock]
    exact relock_effect ..

end

end Sys2Proof.Machine
end

section
/-! The MAINS and the SHAPING record (O49). -/

namespace Sys2Proof.Machine

/-- What the acceptance of a configuration record does: the record of it in the Policy Unit, POLICY_ACCEPTED, and the clamp counter
counted once for a clamped record (R148). -/
theorem acceptConfiguration_eq (s : State) (addr : Addr) {w : Words8} {kind : Nat} (code : w.kindCode = BitVec.ofNat 8 kind)
    (clamped : Bool) : ∃ report',
      (s.carried addr w).acceptConfiguration w kind clamped =
        { s.carried addr w with policy := s.policy.afterKind kind w.sequence, report := report' } ∧
      Reported [.policyAccepted] (if clamped then [.clamp] else []) s { s with report := report' } := by
  have afterKind : s.policy.afterKind kind w.sequence = { s.policy with
      lastAcceptedKind := w.kindCode, lastAcceptedSequence := w.sequence
      received := s.policy.received ||| (1#8 <<< (kind - 1))
      mode := if s.policy.mode = .unconfigured ∧ s.policy.received ||| (1#8 <<< (kind - 1)) = 0xFF#8 then .standby
        else s.policy.mode } := by
    rw [Policy.afterKind, code]
  rw [afterKind]
  cases clamped with
  | false => exact ⟨_, rfl, ((Reported.refl s).setFlag .policyAccepted).congr rfl rfl⟩
  | true => exact ⟨_, rfl, (((Reported.refl s).count (c := .clamp) (by simp)).setFlag .policyAccepted).congr rfl rfl⟩

theorem edgeModeOfCode_of_mem {code : Nat} {mode : EdgeMode}
    (h : (code, mode) ∈ [(0, EdgeMode.off), (1, .rising), (2, .falling), (3, .both)]) : edgeModeOfCode code = mode := by
  simp only [List.mem_cons, Prod.mk.injEq, List.not_mem_nil, or_false] at h
  obtain ⟨rfl, rfl⟩ | ⟨rfl, rfl⟩ | ⟨rfl, rfl⟩ | ⟨rfl, rfl⟩ := h <;> rfl

theorem judgeRecord_of_mains {w : Words8} (h : w.kindCode = 5#8) (s : State) : s.judgeRecord w = s.judgeMains w := by
  simp [State.judgeRecord, h]

theorem judgeRecord_of_shaping {w : Words8} (h : w.kindCode = 8#8) (s : State) : s.judgeRecord w = s.judgeShaping w := by
  simp [State.judgeRecord, h]

/-- A MAINS record is held, and the tracker handed its fields (R49, R152). -/
theorem mains_effect {s : State} {addr : Addr} {body : RecordBody} {mode : EdgeMode} {limit : Nat} (takes : TakesRecord s addr)
    (sum : (recordFrame 5#8 body).sum = 0#32) (hmode : edgeModeOfCode (body.w2.extractLsb' 0 2).toNat = mode)
    (hlimit : limit = (body.w2.extractLsb' 8 4).toNat) : ∃ report',
      exec (.mains addr body) s = .next (State.trackerSettings { s.carried addr (recordFrame 5#8 body) with
        policy := { s.policy.afterKind 5 body.sequence with edgeMode := mode, coastLimit := max 1 limit }
        report := report' } mode (max 1 limit)).driveLines ∧
      Reported [.policyAccepted] (if limit = 0 then [.clamp] else []) s { s with report := report' } := by
  obtain ⟨report', accepted, reported⟩ := acceptConfiguration_eq s addr (w := recordFrame 5#8 body) (kind := 5)
    (kindCode_recordFrame ..) (limit == 0)
  refine ⟨report', ?_, by simpa using reported⟩
  have done := exec_of_judged (c := .mains addr body) takes (writesRecord_of_presented rfl rfl) sum
  have fields : field (recordFrame 5#8 body).w2 8 4 = limit := hlimit.symm
  have mode' : edgeModeOfCode (field (recordFrame 5#8 body).w2 0 2) = mode := hmode
  rw [judgeRecord_of_mains (kindCode_recordFrame ..), State.judgeMains, fields, mode', accepted, sequence_recordFrame] at done
  exact done

/-- The edge mode as the tracker's own: the coast limit alone is taken (R49). -/
theorem trackerSettings_same {s : State} {m : EdgeMode} (same : m = s.tracker.edgeMode) (n : Nat) :
    s.trackerSettings m n = { s with tracker := { s.tracker with coastLimit := n } } := if_pos same

/-- A new edge mode: the tracker restarts, and the map is cleared (R49, R64). -/
theorem trackerSettings_new {s : State} {m : EdgeMode} (new : m ≠ s.tracker.edgeMode) (n : Nat) :
    s.trackerSettings m n = { s.sendMapClear with tracker := { s.tracker.restarted m with coastLimit := n } } := if_neg new

/-- The tracker's settings reach neither the policy, the Report Unit nor the ports. -/
theorem trackerSettings_leaves (s : State) (m : EdgeMode) (n : Nat) : (s.trackerSettings m n).policy = s.policy ∧
    (s.trackerSettings m n).report = s.report ∧ (s.trackerSettings m n).bus = s.bus := by
  obtain ⟨_, _, _, h⟩ := s.trackerSettings_touches m n
  rw [h]
  exact ⟨rfl, rfl, rfl⟩

/-- A SHAPING record is held, and the Report Unit takes its WIN fields (R155, R172). -/
theorem shaping_effect {s : State} {addr : Addr} {body : RecordBody} {timeout : Nat} (takes : TakesRecord s addr)
    (sum : (recordFrame 8#8 body).sum = 0#32) (htimeout : timeout = (body.w3.extractLsb' 0 8).toNat) : ∃ report' : Report,
      exec (.shaping addr body) s = .next ({ s.carried addr (recordFrame 8#8 body) with
        policy := { s.policy.afterKind 8 body.sequence with
          win := (recordFrame 8#8 body).winCarried
          shaping := { (recordFrame 8#8 body).shapingCarried with timeoutMs := max 1 timeout } }
        report := { report' with win := (recordFrame 8#8 body).winCarried } } : State).driveLines ∧
      Reported [.policyAccepted] (if timeout = 0 then [.clamp] else []) s { s with report := report' } := by
  obtain ⟨report', accepted, reported⟩ := acceptConfiguration_eq s addr (w := recordFrame 8#8 body) (kind := 8)
    (kindCode_recordFrame ..) (timeout == 0)
  refine ⟨report', ?_, by simpa using reported⟩
  have done := exec_of_judged (c := .shaping addr body) takes (writesRecord_of_presented rfl rfl) sum
  have fields : (recordFrame 8#8 body).shapingCarried.timeoutMs = timeout := htimeout.symm
  rw [judgeRecord_of_shaping (kindCode_recordFrame ..), State.judgeShaping, fields, accepted, sequence_recordFrame] at done
  exact done

/-- Settles O49: MAINS by whether its edge mode is new to the tracker, and SHAPING. -/
theorem mainsAndShapingRecords : Obligations.MainsAndShapingRecords := by
  refine ⟨fun s addr body mode code limit takes sum hcode hmode hlimit => ?_, fun s addr body timeout win takes sum htimeout hwin => ?_⟩
  · subst hcode
    obtain ⟨report', done, reported⟩ := mains_effect takes sum (edgeModeOfCode_of_mem hmode) hlimit
    obtain ⟨policy, report, bus⟩ := trackerSettings_leaves { s.carried addr (recordFrame 5#8 body) with
        policy := { s.policy.afterKind 5 body.sequence with edgeMode := mode, coastLimit := max 1 limit }
        report := report' } mode (max 1 limit)
    refine ⟨_, done, carriedRecord_of_bus takes s.bus.windows bus, (congrArg Classifier.windows bus :), policy,
      (reported.congr rfl report).driveLines, fun same => ?_, fun new => ?_⟩
    · rw [trackerSettings_same (by exact same)]
      exact ⟨OnlyIn.driveLines (by simp [onlyIn_iff, State.carried, State.forward]) (by simp), rfl⟩
    · rw [trackerSettings_new (by exact new)]
      exact ⟨OnlyIn.driveLines (by simp [onlyIn_iff, State.carried, State.forward]) (by simp), rfl, rfl, rfl⟩
  · subst hwin
    obtain ⟨report', done, reported⟩ := shaping_effect takes sum htimeout
    obtain ⟨flags, enables, -, counters⟩ := reported
    exact ⟨_, done, carriedRecord_of_bus takes s.bus.windows rfl, rfl,
      OnlyIn.driveLines (by simp [onlyIn_iff, State.carried, State.forward]) (by simp), rfl, ⟨flags, enables, rfl, counters⟩, rfl⟩

end Sys2Proof.Machine
end

section
/-! The report words (O14): each field at its bits, and 0 at every bit that no field occupies. -/

namespace Sys2Proof.Machine

/-! ### Fields of a word -/

/-- The bits of a placed value. -/
theorem getElem_place (v lo len : Nat) {i : Nat} (hi : i < 32) :
    (place v lo len)[i] = (decide (lo ≤ i ∧ i < lo + len) && v.testBit (i - lo)) := by
  have within : i - lo < 32 := by omega
  rw [place, BitVec.getElem_shiftLeft, ← BitVec.getLsbD_eq_getElem within, BitVec.getLsbD_ofNat, Nat.testBit_mod_two_pow]
  by_cases low : lo ≤ i
  · have field : i - lo < len ↔ i < lo + len := by omega
    simp [low, within, field, Nat.not_lt.2 low]
  · simp [low, Nat.lt_of_not_le low]

/-- The field of a placed value. -/
@[simp] theorem extractLsb'_place {lo len : Nat} (fits : lo + len ≤ 32) (v : Nat) :
    (place v lo len).extractLsb' lo len = BitVec.ofNat len v := by
  ext i hi
  have within : lo + i < 32 := by omega
  rw [← BitVec.getLsbD_eq_getElem (x := BitVec.ofNat len v) hi, BitVec.getLsbD_ofNat]
  simp [BitVec.getLsbD_eq_getElem within, getElem_place, hi]

/-- Another field of a placed value. -/
@[simp] theorem extractLsb'_place_apart {lo len lo' len' : Nat} (apart : lo + len ≤ lo' ∨ lo' + len' ≤ lo) (v : Nat) :
    (place v lo len).extractLsb' lo' len' = 0#len' := by
  ext i hi
  have outside : ¬ (lo ≤ lo' + i ∧ lo' + i < lo + len) := by omega
  by_cases within : lo' + i < 32
  · simp [BitVec.getLsbD_eq_getElem within, getElem_place, outside]
  · simp [BitVec.getLsbD_of_ge _ _ (Nat.le_of_not_lt within)]

/-- A placed value lies outside a mask that is 0 over its field. -/
theorem place_and_mask {mask : Word} {lo len : Nat} (unmasked : mask.extractLsb' lo len = 0#len) (v : Nat) :
    place v lo len &&& mask = 0#32 := by
  ext i hi
  rw [BitVec.getElem_and, getElem_place, BitVec.getElem_zero]
  by_cases inField : lo ≤ i ∧ i < lo + len
  · have bit : mask[i] = false := by
      have bit := congrArg (fun x => x.getLsbD (i - lo)) unmasked
      have inside : i - lo < len := by omega
      simpa [inside, inField.1, BitVec.getLsbD_eq_getElem hi] using bit
    rw [bit, Bool.and_false]
  · simp [inField]

theorem or_and_mask {a b mask : Word} (ha : a &&& mask = 0#32) (hb : b &&& mask = 0#32) : (a ||| b) &&& mask = 0#32 := by
  rw [BitVec.and_comm, BitVec.and_or_distrib_left, BitVec.and_comm mask, BitVec.and_comm mask, ha, hb]
  rfl

section
variable (s : State)

/-! ### The words of single fields (R163) -/

theorem word1_fields :
    (s.word1).extractLsb' 0 2 = BitVec.ofNat 2 s.policy.mode.code ∧
    (s.word1).extractLsb' 8 3 = BitVec.ofNat 3 s.tracker.lockState.code ∧
    (s.word1).getLsbD 16 = s.air.aligned ∧
    (s.word1).extractLsb' 24 2 = BitVec.ofNat 2 s.tracker.edgeMode.code ∧ s.word1 &&& 0xFCFEF8FC#32 = 0#32 := by
  unfold State.word1 placeFlag
  have aligned : decide (s.air.aligned.toNat % 2 = 1) = s.air.aligned := by cases s.air.aligned <;> rfl
  refine ⟨?_, ?_, ?_, ?_, or_and_mask (or_and_mask (or_and_mask (place_and_mask (by decide) _) (place_and_mask (by decide) _))
      (place_and_mask (by decide) _)) (place_and_mask (by decide) _)⟩
  all_goals simp [BitVec.extractLsb'_or, getElem_place, aligned]

theorem word6_fields : (s.word6).extractLsb' 0 16 = s.report.flags ∧ (s.word6).extractLsb' 16 16 = s.report.enables :=
  ⟨BitVec.extractLsb'_append_eq_right, BitVec.extractLsb'_append_eq_left⟩

theorem word7_fields :
    (s.word7).extractLsb' 0 4 = BitVec.ofNat 4 s.intake.fifo.length ∧
    ((s.word7).getLsbD 4 = true ↔ 4 ≤ s.intake.fifo.length) ∧
    (s.word7).extractLsb' 8 5 = BitVec.ofNat 5 s.rewriter.entries.length ∧
    (s.word7).extractLsb' 16 4 = BitVec.ofNat 4 (s.schedule.slots.toList.filter Option.isSome).length ∧
    (s.word7).extractLsb' 20 9 = BitVec.ofNat 9 s.map.hotCount ∧ s.word7 &&& 0xE000E0E0#32 = 0#32 := by
  unfold State.word7 placeFlag
  have half : (decide (4 ≤ s.intake.fifo.length)).toNat % 2 = 1 ↔ 4 ≤ s.intake.fifo.length := by
    by_cases h : 4 ≤ s.intake.fifo.length <;> simp [h]
  refine ⟨?_, ?_, ?_, ?_, ?_, or_and_mask (or_and_mask (or_and_mask (or_and_mask (place_and_mask (by decide) _)
    (place_and_mask (by decide) _)) (place_and_mask (by decide) _)) (place_and_mask (by decide) _)) (place_and_mask (by decide) _)⟩
  all_goals simp [BitVec.extractLsb'_or, getElem_place, half, Schedule.count, List.countP_eq_length_filter]

theorem word8_fields :
    (s.word8).extractLsb' 0 8 = BitVec.ofNat 8 s.map.sequence ∧
    (s.word8).extractLsb' 8 8 = s.policy.lastAcceptedSequence ∧
    (s.word8).extractLsb' 16 8 = s.policy.lastRejectedSequence ∧
    (s.word8).extractLsb' 24 4 = s.policy.lastAcceptedKind.extractLsb' 0 4 ∧
    (s.word8).extractLsb' 28 4 = BitVec.ofNat 4 s.policy.lastRejectedReason.code := by
  unfold State.word8
  refine ⟨?_, ?_, ?_, ?_, ?_⟩
  all_goals simp [BitVec.extractLsb'_or, BitVec.setWidth_eq_extractLsb']

theorem word9_fields :
    (s.word9).extractLsb' 0 8 = s.policy.received ∧
    (s.word9).extractLsb' 8 5 = BitVec.ofNat 5 s.tracker.coastCount ∧
    (s.word9).extractLsb' 16 4 = BitVec.ofNat 4 s.admission.relief ∧ s.word9 &&& 0xFFF0E000#32 = 0#32 := by
  unfold State.word9
  refine ⟨?_, ?_, ?_, or_and_mask (or_and_mask (place_and_mask (by decide) _) (place_and_mask (by decide) _))
    (place_and_mask (by decide) _)⟩
  all_goals simp [BitVec.extractLsb'_or]

/-! ### The counters, the snapshot and the neighbour table (R104, R165) -/

/-- The words from 10 on. -/
theorem reportWord_of_ge {i : Nat} (block : 10 ≤ i) : s.reportWord i =
    if i < 32 then s.counterWord i else if i < 96 then s.snapshotWord (i - 32)
    else if i < 128 then s.neighbourWord (i - 96) else 0#32 := by
  obtain ⟨m, rfl⟩ := Nat.exists_eq_add_of_le' block
  rfl

/-- Two counter slots to a word, the even one low. -/
theorem counterWord_half {n : Nat} : (s.counterWord (10 + n / 2)).extractLsb' (16 * (n % 2)) 16 =
    BitVec.ofNat 16 (s.slotValue n) := by
  unfold State.counterWord
  obtain even | odd := Nat.mod_two_eq_zero_or_one n
  · have slot : 2 * (n / 2) = n := by omega
    simp [even, slot, BitVec.extractLsb'_or]
  · have slot : 2 * (n / 2) + 1 = n := by omega
    simp [odd, slot, BitVec.extractLsb'_or]

theorem slotValue_counter (c : Counter) : s.slotValue c.slot.val = s.counter c := by
  simp [State.slotValue, State.counter]

/-- The slots past the counters read 0 (R165). -/
theorem slotValue_unused {n : Nat} (unused : 40 ≤ n) : s.slotValue n = 0 := by
  simp [State.slotValue, Vector.getElem?_eq_none unused]

theorem counterWord_unused {i : Nat} (unused : 30 ≤ i) : s.counterWord i = 0#32 := by
  rw [State.counterWord, slotValue_unused s (by omega), slotValue_unused s (by omega)]
  rfl

theorem snapshotWord_slice (b : Nat) {k : Nat} (slice : k < 4) :
    (s.snapshotWord b).extractLsb' (8 * k) 8 = BitVec.ofNat 8 (scoreAt s.map.snapshot b k) := by
  unfold State.snapshotWord
  interval_cases k <;> simp [BitVec.extractLsb'_or]

/-- The slot that a word from 96 on belongs to. -/
theorem reportWord_neighbour (n : Fin 8) {j : Nat} (part : j < 4) {slot : Option Neighbour} (held : s.schedule.slots[n] = slot) :
    s.reportWord (96 + 4 * n.val + j) = (slot.map fun e => e.reportWord j).getD 0#32 := by
  have block : 96 + 4 * n.val + j - 96 = 4 * n.val + j := by omega
  have number : (4 * n.val + j) / 4 = n.val := by omega
  have word : (4 * n.val + j) % 4 = j := by omega
  have found : s.schedule.slots[n.val]? = some slot := by rw [← held]; simp
  rw [reportWord_of_ge s (by omega), if_neg (by omega), if_neg (by omega), if_pos (by omega), block, State.neighbourWord, number,
    word, found]
  cases slot <;> rfl

/-- The four words of an entry (section 11.6). -/
theorem neighbour_words (e : Neighbour) :
    (e.reportWord 1).extractLsb' 0 16 ++ e.reportWord 0 = e.address ∧
    (e.reportWord 1).extractLsb' 16 10 = BitVec.ofNat 10 e.interval ∧
    e.reportWord 2 = e.anchor ∧
    (e.reportWord 3).extractLsb' 0 16 = BitVec.ofNat 16 e.airtime ∧
    (e.reportWord 3).extractLsb' 16 3 = BitVec.ofNat 3 e.confidence ∧
    (e.reportWord 3).extractLsb' 20 2 = BitVec.ofNat 2 e.missCount ∧
    (e.reportWord 3).extractLsb' 24 2 = BitVec.ofNat 2 e.misaligned ∧
    e.reportWord 1 &&& 0xFC000000#32 = 0#32 ∧ e.reportWord 3 &&& 0xFCC80000#32 = 0#32 := by
  have high : (e.reportWord 1).extractLsb' 0 16 = e.address.extractLsb' 32 16 := by
    simp [Neighbour.reportWord, BitVec.extractLsb'_or, -BitVec.extractLsb'_toNat]
  have whole : e.address.extractLsb' 32 16 ++ e.address.extractLsb' 0 32 = e.address :=
    (BitVec.extractLsb'_append_extractLsb'_eq_extractLsb' rfl).trans BitVec.extractLsb'_eq_self
  refine ⟨by rw [high]; exact whole, ?_, rfl, ?_, ?_, ?_, ?_,
    or_and_mask (place_and_mask (by decide) _) (place_and_mask (by decide) _),
    or_and_mask (or_and_mask (or_and_mask (place_and_mask (by decide) _) (place_and_mask (by decide) _))
      (place_and_mask (by decide) _)) (place_and_mask (by decide) _)⟩
  all_goals simp [Neighbour.reportWord, BitVec.extractLsb'_or]

end

/-- Settles O14: the codes by evaluation, and the words one by one. -/
theorem reportWordLayout : Obligations.ReportWordLayout := by
  refine ⟨rfl, rfl, rfl, rfl, rfl, rfl, fun s => ?_⟩
  obtain ⟨mode, lock, aligned, edge, status⟩ := word1_fields s
  obtain ⟨flags, enables⟩ := word6_fields s
  obtain ⟨fifo, half, pending, neighbours, hot, occupancy⟩ := word7_fields s
  obtain ⟨sequence, accepted, rejected, kind, reason⟩ := word8_fields s
  obtain ⟨received, coast, relief, last⟩ := word9_fields s
  refine ⟨rfl, rfl, rfl, rfl, rfl, mode, lock, aligned, edge, status, flags, enables, fifo, half, pending, neighbours, hot,
    occupancy, sequence, accepted, rejected, kind, reason, received, coast, relief, last, fun c => ?_, ?_, ?_,
    fun b k bin slice => ?_, fun n => ⟨fun free j part => ?_, fun e held => ?_⟩⟩
  · rw [reportWord_of_ge s (by omega), if_pos (by omega), counterWord_half, slotValue_counter]
  · exact counterWord_unused s le_rfl
  · exact counterWord_unused s (by decide)
  · rw [reportWord_of_ge s (by omega), if_neg (by omega), if_pos (by omega), Nat.add_sub_cancel_left, snapshotWord_slice s b slice]
  · rw [reportWord_neighbour s n part free]
    rfl
  · have word (i : Nat) {j : Nat} (part : j < 4) (hi : i = 96 + j) : s.reportWord (i + 4 * n.val) = e.reportWord j := by
      rw [hi, Nat.add_right_comm, reportWord_neighbour s n part held]
      rfl
    rw [word 96 (j := 0) (by decide) rfl, word 97 (j := 1) (by decide) rfl, word 98 (j := 2) (by decide) rfl,
      word 99 (j := 3) (by decide) rfl]
    exact neighbour_words e

end Sys2Proof.Machine
end

section
/-! What Record Intake's invariant (O55) reads, and the operations that leave that alone: marks, requests that no fold waits for,
and the services of the Map and of the Schedule. -/

namespace Sys2Proof.Machine

/-! ### The requests that a fold waits for (R56) -/

/-- A fold waits for this request at the Map. -/
def MapRequest.forFold : MapRequest → Bool
  | .evidence _ b => b
  | .age => false
  | .clear => false
  | .settings _ => false
  | .snapshot => false

/-- A fold waits for this request at the Schedule. -/
def ScheduleRequest.forFold : ScheduleRequest → Bool
  | .update _ b => b
  | .expiry _ _ => false
  | .clear => false
  | .settings _ => false

theorem awaited_eq (s : State) :
    s.awaited = s.map.requests.countP MapRequest.forFold + s.schedule.requests.countP ScheduleRequest.forFold := by
  unfold State.awaited
  rw [List.countP_eq_length_filter, List.countP_eq_length_filter]
  congr 3 <;> funext q <;> cases q <;> rfl

/-- A fold waits once it has handed a request on (R56). -/
theorem State.IntakeInv.awaited {s : State} (inv : s.IntakeInv) {f : Fold} (fold : s.intake.fold = some f) :
    s.awaited = if f.handedOn then 1 else 0 := by
  obtain ⟨-, -, count⟩ := inv
  rwa [fold] at count

/-- A fold waits for one request at a time (R56). -/
theorem State.IntakeInv.waits {s : State} (inv : s.IntakeInv) (some' : 1 ≤ s.awaited) : s.awaited = 1 := by
  obtain ⟨-, -, count⟩ := inv
  split at count
  · split at count <;> omega
  · omega

/-! ### What leaves the invariant alone -/

/-- Record Intake keeps its entries but for their marks, its fold, and the number of requests awaited. -/
structure IntakeKept (s t : State) : Prop where
  entries : SameEntries s t
  awaited : t.awaited = s.awaited

namespace IntakeKept

variable {s t u : State}

theorem inv (h : IntakeKept s t) (inv : s.IntakeInv) : t.IntakeInv := by
  obtain ⟨⟨fold, length⟩, awaited⟩ := h
  obtain ⟨room, idle, count⟩ := inv
  refine ⟨by rwa [length], ?_, by rw [awaited, fold, count]⟩
  rw [fold, idle, ← List.length_eq_zero_iff, ← List.length_eq_zero_iff, length]

theorem trans (h : IntakeKept s t) (g : IntakeKept t u) : IntakeKept s u :=
  ⟨⟨g.entries.1.trans h.entries.1, g.entries.2.trans h.entries.2⟩, g.awaited.trans h.awaited⟩

/-- An operation that touches neither Record Intake nor the requests at the Map and the Schedule. -/
theorem of_eq (same : (t.intake, t.map.requests, t.schedule.requests) = (s.intake, s.map.requests, s.schedule.requests)) :
    IntakeKept s t := by
  obtain ⟨intake, map, schedule⟩ : t.intake = s.intake ∧ t.map.requests = s.map.requests ∧
    t.schedule.requests = s.schedule.requests := by simpa using same
  exact ⟨⟨by rw [intake], by rw [intake]⟩, by rw [awaited_eq, awaited_eq, map, schedule]⟩

theorem refl (s : State) : IntakeKept s s := of_eq rfl

/-- An operation after an update of what the relation does not read. -/
theorem after (h : IntakeKept t u)
    (same : (t.intake, t.map.requests, t.schedule.requests) = (s.intake, s.map.requests, s.schedule.requests)) :
    IntakeKept s u := (of_eq same).trans h

/-- An update of what the relation does not read, after an operation. -/
theorem congr (h : IntakeKept s t)
    (same : (u.intake, u.map.requests, u.schedule.requests) = (t.intake, t.map.requests, t.schedule.requests)) :
    IntakeKept s u := h.trans (of_eq same)

/-- An operation applied again and again. -/
theorem foldl {α : Type} {f : State → α → State} (hf : ∀ s a, IntakeKept s (f s a)) (l : List α) (s : State) :
    IntakeKept s (l.foldl f s) := by
  induction l generalizing s with
  | nil => exact refl s
  | cons a l ih => exact (hf s a).trans (ih (f s a))

end IntakeKept

section
variable (s : State)

/-! ### Requests and marks (R64, R70, R88) -/

theorem State.sendMap_kept {q : MapRequest} (free : q.forFold = false) : IntakeKept s (s.sendMap q) :=
  ⟨⟨rfl, rfl⟩, by simp [awaited_eq, free]⟩

theorem State.sendSchedule_kept {q : ScheduleRequest} (free : q.forFold = false) : IntakeKept s (s.sendSchedule q) :=
  ⟨⟨rfl, rfl⟩, by simp [awaited_eq, free]⟩

theorem State.voidForMap_kept : IntakeKept s s.voidForMap := ⟨⟨rfl, List.length_map _⟩, rfl⟩

theorem State.voidForNeighbour_kept : IntakeKept s s.voidForNeighbour := ⟨⟨rfl, List.length_map _⟩, rfl⟩

theorem State.sendMapClear_kept : IntakeKept s s.sendMapClear := s.voidForMap_kept.trans (State.sendMap_kept _ rfl)

theorem State.sendNeighbourClear_kept : IntakeKept s s.sendNeighbourClear :=
  s.voidForNeighbour_kept.trans (State.sendSchedule_kept _ rfl)

theorem State.referenceEvents_kept : IntakeKept s s.referenceEvents :=
  (s.sendMap_kept rfl).trans (State.sendMap_kept _ rfl)

variable {s}

/-- The number awaited once the request in service has left the Map. -/
theorem popMap_awaited {q : MapRequest} {more : List MapRequest} (head : s.map.requests = q :: more) :
    s.awaited = s.popMap.awaited + q.forFold.toNat := by
  have popped : s.popMap.map.requests = more := by simp [State.popMap, head]
  rw [awaited_eq, awaited_eq, popped, head, List.countP_cons, State.popMap_schedule]
  cases q.forFold <;> simp only [Bool.toNat_true, Bool.toNat_false, Bool.false_eq_true, if_true, if_false] <;> omega

theorem popSchedule_awaited {q : ScheduleRequest} {more : List ScheduleRequest} (head : s.schedule.requests = q :: more) :
    s.awaited = s.popSchedule.awaited + q.forFold.toNat := by
  have popped : s.popSchedule.schedule.requests = more := by simp [State.popSchedule, head]
  rw [awaited_eq, awaited_eq, popped, head, List.countP_cons, State.popSchedule_map]
  cases q.forFold <;> simp only [Bool.toNat_true, Bool.toNat_false, Bool.false_eq_true, if_true, if_false] <;> omega

theorem popMap_kept {q : MapRequest} {more : List MapRequest} (head : s.map.requests = q :: more)
    (free : q.forFold = false) : IntakeKept s s.popMap :=
  ⟨⟨rfl, rfl⟩, by simpa [free] using (popMap_awaited head).symm⟩

theorem popSchedule_kept {q : ScheduleRequest} {more : List ScheduleRequest} (head : s.schedule.requests = q :: more)
    (free : q.forFold = false) : IntakeKept s s.popSchedule :=
  ⟨⟨rfl, rfl⟩, by simpa [free] using (popSchedule_awaited head).symm⟩

/-! ### The Map's services -/

variable (s)

theorem State.recount_kept : IntakeKept s s.recount := by
  simp only [State.recount]
  split <;> exact .of_eq rfl

theorem State.serveEvidence_kept (e : Evidence) : IntakeKept s (s.serveEvidence e) := by
  unfold State.serveEvidence
  exact (State.recount_kept _).after rfl

theorem State.serveSettings_kept (m : MapSettings) : IntakeKept s (s.serveSettings m) := by
  unfold State.serveSettings
  exact (State.recount_kept _).after rfl

theorem State.serveAge_kept : IntakeKept s s.serveAge := by
  unfold State.serveAge
  split
  · exact (State.recount_kept _).after rfl
  · split <;> exact (State.recount_kept _).after rfl

theorem State.serveClear_kept : IntakeKept s s.serveClear := by
  unfold State.serveClear
  exact (State.sendMap_kept _ rfl).after rfl

theorem State.takeSnapshot_kept : IntakeKept s s.takeSnapshot := by
  unfold State.takeSnapshot
  split
  next head _ => exact (popMap_kept head rfl).congr rfl
  · exact .refl s

/-! ### The Schedule's services -/

theorem State.sendMiss_kept (i : Fin 8) (e : Neighbour) : IntakeKept s (s.sendMiss i e) :=
  (State.sendSchedule_kept (s.setSlot i (some { e with taken := true })) rfl).after rfl

theorem State.takeMiss_kept (i : Fin 8) : IntakeKept s (s.takeMiss i) := by
  unfold State.takeMiss
  split
  · split
    · exact s.sendMiss_kept ..
    · exact .refl s
  · exact .refl s

theorem State.armSlot_kept (i : Fin 8) (e : Neighbour) : IntakeKept s (s.armSlot i e) := by
  dsimp only [State.armSlot]
  split
  · exact .of_eq rfl
  · exact s.sendMiss_kept ..

theorem State.updateEntry_kept (i : Fin 8) (e : Neighbour) (u : BeaconUpdate) : IntakeKept s (s.updateEntry i e u) := by
  have counted : ∀ e', IntakeKept s ((s.count .reAnchor).armSlot i e') := fun e' => (State.armSlot_kept _ i e').after rfl
  unfold State.updateEntry
  split
  · exact counted _
  · split
    · exact s.armSlot_kept ..
    · split
      · exact .of_eq rfl
      · exact counted _

theorem State.takeNewcomer_kept (u : BeaconUpdate) : IntakeKept s (s.takeNewcomer u) := by
  unfold State.takeNewcomer
  split
  · exact s.armSlot_kept ..
  · split
    · exact .refl s
    · split
      · exact .of_eq rfl
      · exact (State.armSlot_kept ..).after rfl

theorem State.serveUpdate_kept (u : BeaconUpdate) : IntakeKept s (s.serveUpdate u) := by
  unfold State.serveUpdate
  split
  · exact .of_eq rfl
  · split
    · exact s.takeNewcomer_kept u
    · split
      · exact s.updateEntry_kept ..
      · exact .refl s

theorem State.serveExpiry_kept (i : Fin 8) (a : BitVec 48) : IntakeKept s (s.serveExpiry i a) := by
  unfold State.serveExpiry
  split
  · split
    · unfold State.missBeacon
      split
      · exact .of_eq rfl
      · exact s.armSlot_kept ..
    · exact .refl s
  · exact .refl s

theorem State.rearmSlot_kept (i : Fin 8) : IntakeKept s (s.rearmSlot i) := by
  unfold State.rearmSlot
  split
  · exact s.armSlot_kept ..
  · exact .refl s

theorem State.serveNeighbourSettings_kept (n : NeighbourFields) : IntakeKept s (s.serveNeighbourSettings n) := by
  simp only [State.serveNeighbourSettings]
  split
  · exact .of_eq rfl
  · exact (IntakeKept.foldl State.rearmSlot_kept _ _).after rfl

/-! ### The tracker's requests (R41, R46) -/

theorem State.relockClear_kept : IntakeKept s s.relockClear := by
  unfold State.relockClear
  split
  · exact s.sendMapClear_kept
  · exact .refl s

theorem State.gainLock_kept (t : Time) (p : Nat) : IntakeKept s (s.gainLock t p) := by
  have cleared : IntakeKept s (s.setFlag .lockGained).relockClear := (State.relockClear_kept _).after rfl
  unfold State.gainLock
  exact cleared.trans ((State.referenceEvents_kept _).after rfl)

theorem State.referenceInLocking_kept (t : Time) (p : Int) : IntakeKept s (s.referenceInLocking t p) := by
  unfold State.referenceInLocking
  split
  · exact .of_eq rfl
  · split
    · exact .of_eq rfl
    · split
      · exact s.gainLock_kept ..
      · exact .of_eq rfl

theorem State.referenceInLocked_kept (t : Time) (p : Int) : IntakeKept s (s.referenceInLocked t p) := by
  unfold State.referenceInLocked
  split
  · exact .of_eq rfl
  · split
    · exact .of_eq rfl
    · exact (State.referenceEvents_kept _).after rfl

theorem State.referenceInCoasting_kept (t : Time) (p : Int) : IntakeKept s (s.referenceInCoasting t p) := by
  unfold State.referenceInCoasting
  split
  · exact .of_eq rfl
  · split
    · exact .of_eq rfl
    · exact (State.referenceEvents_kept _).after rfl

theorem State.referenceEdge_kept (t : Time) : IntakeKept s (s.referenceEdge t) := by
  unfold State.referenceEdge
  split
  · exact .refl s
  · exact .of_eq rfl
  · exact .of_eq rfl
  · unfold State.referenceInSeeking
    split <;> exact .of_eq rfl
  · exact s.referenceInLocking_kept ..
  · exact s.referenceInLocked_kept ..
  · exact s.referenceInCoasting_kept ..

theorem State.considerEdge_kept (t : Time) : IntakeKept s (s.considerEdge t) := by
  unfold State.considerEdge
  split
  · simp only [State.acceptEdge]
    split
    · exact .of_eq rfl
    · exact (State.referenceEdge_kept _ t).after rfl
  · exact .of_eq rfl

theorem State.mainsTransition_kept (rising : Bool) : IntakeKept s (s.mainsTransition rising) := by
  simp only [State.mainsTransition]
  split
  · exact .of_eq rfl
  · split
    · exact (State.considerEdge_kept _ _).after rfl
    · exact .of_eq rfl

theorem State.takeLockExpiry_kept : IntakeKept s s.takeLockExpiry := by
  unfold State.takeLockExpiry
  split
  · exact (State.referenceEvents_kept _).after rfl
  · exact .refl s

theorem State.takeCoastExpiry_kept : IntakeKept s s.takeCoastExpiry := by
  unfold State.takeCoastExpiry
  split
  · split
    · exact (State.referenceEvents_kept _).after rfl
    · exact .of_eq rfl
  · exact .refl s

theorem State.takeTrackerExpiry_kept : IntakeKept s s.takeTrackerExpiry := by
  unfold State.takeTrackerExpiry
  split
  · exact s.takeLockExpiry_kept
  · exact s.takeCoastExpiry_kept
  · exact .refl s

/-! ### The microsecond and the report reads -/

theorem State.takeTick_kept : IntakeKept s s.takeTick := by
  obtain ⟨_, _, _, h⟩ := s.takeTick_touches
  rw [h]
  exact .of_eq rfl

theorem State.takeStales_kept : IntakeKept s s.takeStales := by
  obtain ⟨_, _, h⟩ := s.takeStales_touches
  rw [h]
  exact .of_eq rfl

theorem State.takeMisses_kept : IntakeKept s s.takeMisses := IntakeKept.foldl State.takeMiss_kept _ s

theorem State.settle_kept : IntakeKept s s.settle :=
  ((s.takeTick_kept.trans (State.takeTrackerExpiry_kept _)).trans (State.takeStales_kept _)).trans (State.takeMisses_kept _)

theorem State.advance_kept : IntakeKept s s.advance := .of_eq rfl

theorem State.tickMicrosecond_kept : IntakeKept s s.tickMicrosecond := by
  unfold State.tickMicrosecond
  split
  · exact .refl s
  · exact s.settle_kept.trans (State.advance_kept _)

theorem State.nextReportWord_kept : IntakeKept s s.nextReportWord := by
  simp only [State.nextReportWord]
  split
  · split
    · exact (State.takeSnapshot_kept _).after rfl
    · exact .of_eq rfl
  · exact .refl s

end

end Sys2Proof.Machine
end

section
/-! Record Intake's invariant (O55): arrivals, folds and control records keep it, and O55 itself. -/

namespace Sys2Proof.Machine

/-! ### Folds begin and end (R56) -/

/-- The FIFO is within its room, and no request is awaited. -/
structure Unawaited (s : State) : Prop where
  room : s.intake.fifo.length ≤ 8
  awaited : s.awaited = 0

namespace Unawaited

variable {s t : State}

/-- An update of what is not spoken of. -/
theorem congr (h : Unawaited s) (same : (t.intake.fifo, t.map.requests, t.schedule.requests) =
    (s.intake.fifo, s.map.requests, s.schedule.requests)) : Unawaited t := by
  obtain ⟨fifo, map, schedule⟩ : t.intake.fifo = s.intake.fifo ∧ t.map.requests = s.map.requests ∧
    t.schedule.requests = s.schedule.requests := by simpa using same
  refine ⟨by rw [fifo]; exact h.room, ?_⟩
  rw [awaited_eq, map, schedule, ← awaited_eq, h.awaited]

/-- An IDLE processor begins the head, if there is one. -/
theorem startFold (h : Unawaited s) (idle : s.intake.fold = none) : s.startFold.IntakeInv := by
  cases fifo : s.intake.fifo with
  | nil =>
    rw [State.startFold_of_empty fifo]
    exact ⟨h.room, by simp [idle, fifo], by rw [idle, h.awaited]⟩
  | cons e more =>
    rw [State.startFold_idle idle fifo]
    obtain ⟨_, _, sampled⟩ := s.sampleFor_touches e
    rw [sampled]
    exact ⟨h.room, by simp [fifo], h.awaited⟩

theorem endFold (h : Unawaited s) : s.endFold.IntakeInv := by
  have left : Unawaited s.unheaded := ⟨(List.length_tail ▸ Nat.sub_le _ 1).trans h.room, h.awaited⟩
  exact left.startFold rfl

/-- A fold that ends with a count. -/
theorem countEndFold (h : Unawaited s) (c : Counter) : (s.count c).endFold.IntakeInv :=
  Unawaited.endFold (h.congr rfl)

end Unawaited

/-- A fold in hand: its entry stands in the FIFO, and no request is awaited. -/
structure InHand (s : State) : Prop extends Unawaited s where
  entry : s.intake.fifo ≠ []

section
variable {s : State}

/-- The processor is IDLE only with an empty FIFO, so nothing is left to begin. -/
theorem State.IntakeInv.startFold_eq (inv : s.IntakeInv) : s.startFold = s := by
  obtain ⟨-, idle, -⟩ := inv
  cases fold : s.intake.fold with
  | none => exact State.startFold_of_empty (idle.1 fold)
  | some f => simp [State.startFold, fold]

theorem State.IntakeInv.inHand (inv : s.IntakeInv) {f : Fold} {e : Entry} (h : s.startFold.foldInHand = some (f, e)) :
    InHand s.startFold := by
  rw [inv.startFold_eq] at h ⊢
  unfold State.foldInHand at h
  split at h
  next g head rest fold fifo =>
    split at h
    · cases h
    next waiting => exact ⟨⟨inv.1, by simpa [waiting] using inv.awaited fold⟩, by simp [fifo]⟩
  · cases h

/-- The request that a fold waited for, when one did, is served: nothing else is awaited, and the fold ends. -/
theorem State.IntakeInv.endFoldIf {u : State} (inv : s.IntakeInv) (kept : SameEntries s u) {b : Bool}
    (left : s.awaited = u.awaited + b.toNat) : (u.endFoldIf b).IntakeInv := by
  cases b with
  | false => exact IntakeKept.inv ⟨kept, left.symm⟩ inv
  | true =>
    have one := inv.waits (by rw [left]; exact Nat.le_add_left 1 _)
    have none' : u.awaited = 0 := by simpa [one] using left.symm
    exact Unawaited.endFold ⟨kept.2.trans_le inv.1, none'⟩

/-- An entry that arrives is dropped at a full FIFO, joins the tail behind a fold, or is begun by an IDLE processor. -/
theorem State.IntakeInv.arrive (inv : s.IntakeInv) (b : EntryBody) : (s.arrive b).IntakeInv := by
  obtain full | room := le_or_gt 8 s.intake.fifo.length
  · rw [State.arrive_full full]
    exact (IntakeKept.of_eq rfl).inv inv
  obtain ⟨-, idle, count⟩ := inv
  by_cases fold : s.intake.fold = none
  · have joined : Unawaited { s with intake.fifo := s.intake.fifo ++ [newEntry b] } :=
      ⟨by simpa using room, by rw [fold] at count; exact count⟩
    have notFull : ¬ Config.fifoCapacity ≤ s.intake.fifo.length := by simp [Config.fifoCapacity]; omega
    rw [State.arrive, if_neg notFull]
    exact joined.startFold fold
  · rw [State.arrive_folding (by omega) fold]
    exact ⟨by simpa using room, by simp [fold], count⟩

end

/-! ### What a fold in hand comes to -/

namespace InHand

variable {s t : State}

theorem congr (h : InHand s) (same : (t.intake.fifo, t.map.requests, t.schedule.requests) =
    (s.intake.fifo, s.map.requests, s.schedule.requests)) : InHand t := by
  refine ⟨h.toUnawaited.congr same, ?_⟩
  obtain ⟨fifo, -⟩ : t.intake.fifo = s.intake.fifo ∧ _ := by simpa using same
  rw [fifo]
  exact h.entry

theorem handToMap (h : InHand s) (f : Fold) (e : Evidence) : (s.handToMap f e).IntakeInv := by
  refine ⟨h.room, by simp [State.handToMap, h.entry], ?_⟩
  have before := awaited_eq s ▸ h.awaited
  simp [awaited_eq, State.handToMap, MapRequest.forFold]
  omega

theorem handToSchedule (h : InHand s) (f : Fold) (u : BeaconUpdate) : (s.handToSchedule f u).IntakeInv := by
  refine ⟨h.room, by simp [State.handToSchedule, h.entry], ?_⟩
  have before := awaited_eq s ▸ h.awaited
  simp [awaited_eq, State.handToSchedule, ScheduleRequest.forFold]
  omega

theorem giveEvidence (h : InHand s) (f : Fold) (a : Time) (n : Nat) (set : SliceSet) (k : CellStep) :
    (s.giveEvidence f a n set k).IntakeInv := by
  unfold State.giveEvidence
  split
  · exact h.countEndFold _
  · exact h.handToMap ..

theorem foldSweep (h : InHand s) (f : Fold) (x : SpectralEntry) (v : Bool) : (s.foldSweep f x v).IntakeInv := by
  unfold State.foldSweep
  split
  · exact h.endFold
  · split
    · exact h.countEndFold _
    · split
      · exact h.countEndFold _
      · split
        · exact h.countEndFold _
        · exact h.handToMap ..

theorem foldSpectral (h : InHand s) (f : Fold) (x : SpectralEntry) (v : Bool) : (s.foldSpectral f x v).IntakeInv := by
  have compared : InHand (s.compareSequence x.sequence) := by
    simp only [State.compareSequence]
    split
    · exact h.congr rfl
    · split <;> exact h.congr rfl
  exact compared.foldSweep f x v

theorem foldFrameEvidence (h : InHand s) (f : Fold) (x : ReceiveEntry) (v n : Bool) (k : CellStep) :
    (s.foldFrameEvidence f x v n k).IntakeInv := by
  unfold State.foldFrameEvidence
  split
  · exact h.endFold
  · split
    · exact h.giveEvidence ..
    · exact h.endFold

theorem foldReceive (h : InHand s) (f : Fold) (x : ReceiveEntry) (v n : Bool) : (s.foldReceive f x v n).IntakeInv := by
  unfold State.foldReceive
  split
  · exact h.foldFrameEvidence ..
  · split
    · exact h.endFold
    · exact h.handToSchedule ..
  · exact h.countEndFold _
  · exact h.endFold

theorem foldCompletion (h : InHand s) (f : Fold) (x : CompletionEntry) (v : Bool) :
    (s.foldCompletion f x v).IntakeInv := by
  unfold State.foldCompletion
  split
  · exact h.giveEvidence ..
  · exact h.endFold

end InHand

section
variable {s : State}

/-! ### Words of a write that reach Record Intake -/

theorem State.IntakeInv.nextRecord (inv : s.IntakeInv) : s.nextRecord.IntakeInv := by
  have counted : ∀ c, (s.count c).IntakeInv := fun c => (IntakeKept.of_eq rfl).inv inv
  have arrived : ∀ a r, (s.arriveRecord a r).IntakeInv := by
    intro a r
    unfold State.arriveRecord
    split
    · split
      · exact inv.arrive _
      · exact counted _
    · split
      · exact inv.arrive _
      · exact counted _
    · exact counted _
  unfold State.nextRecord
  split
  · exact (IntakeKept.of_eq rfl).inv (arrived _ _)
  · exact inv

theorem State.IntakeInv.complete (inv : s.IntakeInv) (i : Nat) (a b : Word) : (s.complete i a b).IntakeInv := by
  unfold State.complete
  split
  next e _ =>
    have closed : ((s.removeEntry i).count .matched).IntakeInv := (IntakeKept.of_eq rfl).inv inv
    unfold State.pushEvidence
    split
    · split
      · exact closed
      · exact closed.arrive _
    · exact closed
  · exact (IntakeKept.of_eq rfl).inv inv

theorem State.IntakeInv.nextCompletion (inv : s.IntakeInv) : s.nextCompletion.IntakeInv := by
  unfold State.nextCompletion
  split
  · exact (IntakeKept.of_eq rfl).inv (inv.complete _ _ _)
  · exact inv

/-! ### Control records -/

/-- No fold waits for a request that a channel change has orphaned (R66). -/
theorem emptyFifo_intakeInv (s : State) : s.emptyFifo.IntakeInv := by
  have map : ∀ q : MapRequest, q.orphaned.forFold = false := fun q => by cases q <;> rfl
  have schedule : ∀ q : ScheduleRequest, q.orphaned.forFold = false := fun q => by cases q <;> rfl
  refine ⟨Nat.zero_le 8, by simp [State.emptyFifo, Intake.reset], ?_⟩
  simp [awaited_eq, State.emptyFifo, Intake.reset, List.countP_map, List.countP_eq_zero, map, schedule]

/-- A state in which nothing has reached Record Intake, the Map and the Schedule. -/
theorem intakeInv_of_reset (intake : s.intake = .reset) (map : s.map = .reset) (schedule : s.schedule = .reset) :
    s.IntakeInv :=
  (IntakeKept.of_eq (s := State.reset) (by rw [intake, map, schedule]; rfl)).inv reset_intakeInv

theorem State.IntakeInv.radioChange (inv : s.IntakeInv) (a b : RadioFields) : (s.radioChange a b).IntakeInv := by
  have cleared : ∀ u : State, IntakeKept u ((u.sendMapClear).sendNeighbourClear).emptyPending := fun u =>
    (u.sendMapClear_kept.trans (State.sendNeighbourClear_kept _)).congr rfl
  unfold State.radioChange
  split
  · exact (cleared _).inv (emptyFifo_intakeInv s)
  · split
    · exact (cleared s).inv inv
    · exact inv

theorem acceptConfiguration_kept (s : State) (w : Words8) (k : Nat) (b : Bool) :
    IntakeKept s (s.acceptConfiguration w k b) := by
  obtain ⟨_, _, h⟩ := s.acceptConfiguration_touches w k b
  rw [h]
  exact .of_eq rfl

theorem trackerSettings_kept (s : State) (m : EdgeMode) (n : Nat) : IntakeKept s (s.trackerSettings m n) := by
  unfold State.trackerSettings
  split
  · exact .of_eq rfl
  · exact s.sendMapClear_kept.congr rfl

theorem judgeClear_kept (s : State) (w : Words8) : IntakeKept s (s.judgeClear w) := by
  have applied : ∀ (u : State) (b : Bool) (f : State → State), IntakeKept u (f u) → IntakeKept u (u.applyIf b f) :=
    fun u b f h => by cases b; exacts [.refl u, h]
  have accepted : IntakeKept s (s.accept w) := .of_eq rfl
  exact ((accepted.trans (applied _ _ _ (State.sendMapClear_kept _))).trans
    (applied _ _ _ (State.sendNeighbourClear_kept _))).trans (applied _ _ State.clearCounters (.of_eq rfl))

/-- RADIO may empty the FIFO, RESTART does; every other record leaves the entries but for their marks (R64, R66, R160). -/
theorem State.IntakeInv.judgeRecord (inv : s.IntakeInv) (w : Words8) : (s.judgeRecord w).IntakeInv := by
  have accepted : ∀ k b, (s.acceptConfiguration w k b).IntakeInv := fun k b => (acceptConfiguration_kept s w k b).inv inv
  unfold State.judgeRecord
  split
  · obtain ⟨_, _, _, _, same⟩ := s.judgeWindows_touches w
    rw [same]; exact (IntakeKept.of_eq rfl).inv inv
  · unfold State.judgeRadio
    split
    · exact (IntakeKept.of_eq rfl).inv inv
    · refine State.IntakeInv.radioChange ?_ _ _
      exact (IntakeKept.of_eq rfl).inv (accepted 2 (decide (field w.w2 8 8 < 16)))
  · obtain ⟨_, _, same⟩ := s.judgeRates_touches w 3 0
    rw [same]; exact (IntakeKept.of_eq rfl).inv inv
  · obtain ⟨_, _, same⟩ := s.judgeRates_touches w 4 8
    rw [same]; exact (IntakeKept.of_eq rfl).inv inv
  · unfold State.judgeMains
    exact (trackerSettings_kept _ _ _).inv ((IntakeKept.of_eq rfl).inv (accepted 5 (field w.w2 8 4 == 0)))
  · unfold State.judgeMap
    exact (State.sendMap_kept _ rfl).inv
      ((IntakeKept.of_eq rfl).inv (accepted 6 (w.mapCarried.clamped != w.mapCarried)))
  · unfold State.judgeNeighbour
    exact (State.sendSchedule_kept _ rfl).inv
      ((IntakeKept.of_eq rfl).inv (accepted 7 (w.neighbourCarried.clamped != w.neighbourCarried)))
  · obtain ⟨_, _, same⟩ := s.judgeShaping_touches w
    rw [same]; exact (IntakeKept.of_eq rfl).inv inv
  · obtain ⟨_, _, _, same⟩ := s.judgeKeepalive_touches w
    rw [same]; exact (IntakeKept.of_eq rfl).inv inv
  · exact (IntakeKept.of_eq rfl).inv inv
  · exact (judgeClear_kept s w).inv inv
  · exact intakeInv_of_reset rfl rfl rfl
  · exact (IntakeKept.of_eq rfl).inv inv

/-- Of the transfers only a control record reaches what the invariant reads. -/
theorem State.IntakeInv.takeTransfer (inv : s.IntakeInv) (x : Transfer) : (s.takeTransfer x).IntakeInv := by
  have course := taking s x
  generalize s.takeTransfer x = u at course ⊢
  cases course with
  | refused => exact inv
  | passed => unfold State.passThrough; split <;> exact inv
  | @read tag addr ws => obtain ⟨_, _, _, _, same⟩ := s.takeRead_touches tag addr ws; rw [same]; exact inv
  | @txWrite addr words => obtain ⟨_, same⟩ := s.takeTxWrite_touches addr words; rw [same]; exact inv
  | @rxWrite addr words => obtain ⟨_, same⟩ := s.takeRxWrite_touches addr words; rw [same]; exact inv
  | otherWrite => exact inv
  | @cpuWrite addr words =>
    obtain ⟨_, _, same⟩ := (s.forward (forwardedWrite .cpu addr words)).abandonments_touches addr words.length
    rw [same]; exact inv
  | @record addr w =>
    by_cases sum : w.sum = 0#32
    · rw [checkRecord_of_sum sum]; exact State.IntakeInv.judgeRecord (s := s.carried addr w) inv w
    · rw [checkRecord_of_sum_ne sum]; exact inv

end

/-! ### Every command -/

/-- Every command answers a state that keeps the invariant. The commands are split, and not their effects, because the end of a
service is told with the kind of the request at the head. -/
theorem exec_intakeInv (c : Instr) {s : State} (inv : s.IntakeInv) :
    ∃ u : State, exec c s = .next u.driveLines ∧ u.IntakeInv := by
  cases c with
  | pinReset => exact ⟨_, rfl, intakeInv_of_reset rfl rfl rfl⟩
  | resetRelease => exact ⟨_, rfl, inv⟩
  | tenMillisecondTick => exact ⟨_, rfl, s.takeTick_kept.inv inv⟩
  | keepaliveExpiry =>
    simp only [exec, execKeepaliveExpiry]
    split
    · exact ⟨_, rfl, s.takeTick_kept.inv inv⟩
    · exact ⟨_, rfl, inv⟩
  | airTimeAdvance => exact ⟨_, rfl, s.tickMicrosecond_kept.inv inv⟩
  | descriptorRead e =>
    cases e with
    | take addr ws => exact ⟨_, rfl, inv.takeTransfer _⟩
    | next =>
      obtain ⟨_, _, _, _, same⟩ := s.nextDescriptor_touches
      exact ⟨_, rfl, by rw [same]; exact inv⟩
  | reportRead e =>
    cases e with
    | take addr ws => exact ⟨_, rfl, inv.takeTransfer _⟩
    | next => exact ⟨_, rfl, s.nextReportWord_kept.inv inv⟩
  | completionCandidate addr e =>
    cases e with
    | take words => exact ⟨_, rfl, inv.takeTransfer _⟩
    | next => exact ⟨_, rfl, inv.nextCompletion⟩
  | receiveRecordIntake addr e =>
    cases e with
    | take words => exact ⟨_, rfl, inv.takeTransfer _⟩
    | next => exact ⟨_, rfl, inv.nextRecord⟩
  | admissionResult =>
    simp only [exec, execAdmissionResult]
    split
    next v _ =>
      obtain ⟨_, _, _, _, same⟩ := s.endAdmission_touches v
      exact ⟨_, rfl, by rw [same]; exact inv⟩
    · exact ⟨_, rfl, inv⟩
  | staleExpiry index =>
    obtain ⟨_, _, same⟩ := s.takeStale_touches index
    exact ⟨_, rfl, by rw [same]; exact inv⟩
  | mainsEdge rising => exact ⟨_, rfl, (s.mainsTransition_kept rising).inv inv⟩
  | lockExpiry => exact ⟨_, rfl, s.takeLockExpiry_kept.inv inv⟩
  | coastExpiry => exact ⟨_, rfl, s.takeCoastExpiry_kept.inv inv⟩
  | spectralFold =>
    simp only [exec, execSpectralFold]
    split
    next head => exact ⟨_, rfl, (inv.inHand head).foldSpectral ..⟩
    · exact ⟨_, rfl, inv⟩
  | receiveFold =>
    simp only [exec, execReceiveFold]
    split
    next head => exact ⟨_, rfl, (inv.inHand head).foldReceive ..⟩
    · exact ⟨_, rfl, inv⟩
  | completionFold =>
    simp only [exec, execCompletionFold]
    split
    next head => exact ⟨_, rfl, (inv.inHand head).foldCompletion ..⟩
    · exact ⟨_, rfl, inv⟩
  | evidence =>
    simp only [exec, execEvidence]
    split
    next e forFold more head =>
      have served := s.popMap.serveEvidence_kept e
      exact ⟨_, rfl, inv.endFoldIf served.entries (by rw [served.awaited]; exact popMap_awaited head)⟩
    · exact ⟨_, rfl, inv⟩
  | age =>
    simp only [exec, execAge]
    split
    next head => exact ⟨_, rfl, ((popMap_kept head rfl).trans (State.serveAge_kept _)).inv inv⟩
    · exact ⟨_, rfl, inv⟩
  | mapClear =>
    simp only [exec, execMapClear]
    split
    next head => exact ⟨_, rfl, ((popMap_kept head rfl).trans (State.serveClear_kept _)).inv inv⟩
    · exact ⟨_, rfl, inv⟩
  | mapSettings =>
    simp only [exec, execMapSettings]
    split
    next head => exact ⟨_, rfl, ((popMap_kept head rfl).trans (State.serveSettings_kept _ _)).inv inv⟩
    · exact ⟨_, rfl, inv⟩
  | snapshot => exact ⟨_, rfl, s.takeSnapshot_kept.inv inv⟩
  | beaconUpdate =>
    simp only [exec, execBeaconUpdate]
    split
    next u forFold more head =>
      have served := s.popSchedule.serveUpdate_kept u
      exact ⟨_, rfl, inv.endFoldIf served.entries (by rw [served.awaited]; exact popSchedule_awaited head)⟩
    · exact ⟨_, rfl, inv⟩
  | missExpiry slot => exact ⟨_, rfl, (s.takeMiss_kept slot).inv inv⟩
  | missedBeacon =>
    simp only [exec, execMissedBeacon]
    split
    next head => exact ⟨_, rfl, ((popSchedule_kept head rfl).trans (State.serveExpiry_kept _ _ _)).inv inv⟩
    · exact ⟨_, rfl, inv⟩
  | neighbourClear =>
    simp only [exec, execNeighbourClear]
    split
    next head => exact ⟨_, rfl, ((popSchedule_kept head rfl).congr rfl).inv inv⟩
    · exact ⟨_, rfl, inv⟩
  | neighbourSettings =>
    simp only [exec, execNeighbourSettings]
    split
    next head => exact ⟨_, rfl, ((popSchedule_kept head rfl).trans (State.serveNeighbourSettings_kept _ _)).inv inv⟩
    · exact ⟨_, rfl, inv⟩
  | _ => exact ⟨_, rfl, inv.takeTransfer _⟩

/-- Settles O55: arrivals, folds, services and control records each keep the invariant, which does not read the lines. -/
theorem intakeStaysConsistent : Obligations.IntakeStaysConsistent := by
  intro c s t inv h
  obtain ⟨u, answered, kept⟩ := exec_intakeInv c inv
  rw [answered] at h
  cases h
  exact kept

end Sys2Proof.Machine
end

section
/-! The check of a start (O21): its interval against the blackout windows, and the bins that its microseconds lie in. -/

namespace Sys2Proof.Machine

theorem anyCell_iff (sp : Span) (set : SliceSet) (test : Nat → Nat → Bool) :
    anyCell sp set test = true ↔ ∃ b k, b < 64 ∧ sp.has b = true ∧ k < 4 ∧ set.has k = true ∧ test b k = true := by
  simp only [anyCell, List.any_eq_true, List.mem_range, Bool.and_eq_true]
  constructor
  · rintro ⟨b, bin, held, k, slice, has, hit⟩
    exact ⟨b, k, bin, held, slice, has, hit⟩
  · rintro ⟨b, k, bin, held, slice, has, hit⟩
    exact ⟨b, bin, held, k, slice, has, hit⟩

theorem binAt_lt {r : Time} {p : Nat} (pos : 1 ≤ p) (t : Time) : binAt r p t < 64 := by
  rw [← Phase.bin_eq_binAt (ph := { ref := r, period := p }) pos t]
  exact binOf_lt (Phase.phaseOf_lt (ph := { ref := r, period := p }) pos t)

/-- The slices that a frame of a width is checked in (R57, R111). -/
theorem slice_iff (observed operating : Width) (position : Secondary) (k : Nat) :
    (if observed = .mhz40 ∧ operating = .mhz40 then k < 4 else InPrimaryPair position k) ↔
      k < 4 ∧ (coverage observed operating position).has k = true := by
  have pair : InPrimaryPair position k → k < 4 := by
    unfold InPrimaryPair
    split <;> omega
  rw [and_congr_right fun slice : k < 4 => coverage_has_iff observed operating position slice]
  split
  next wide => simp [wide]
  next narrow => exact ⟨fun h => ⟨pair h, .inr h⟩, fun h => h.2.resolve_left narrow⟩

section
variable {v : AdmissionView} {start : Time} {n : Nat}

/-- The neighbour test of a start (R110). -/
theorem neighbourTest_iff (regular : ∀ i : Fin 8, ∀ e, v.slots[i] = some e → 1 ≤ e.interval) :
    v.neighbourTest start n = true ↔ ¬ TrackedWindowMeets v.slots v.guards 0 v.now start n := by
  rw [AdmissionView.neighbourTest, Bool.not_eq_true', ← Bool.not_eq_true, anyBlocks_iff _ _ _ _ _ _ regular]

/-- The map test of a start, microsecond by microsecond (R58, R111). -/
theorem mapTest_iff (some' : 1 ≤ n)
    (phased : ∀ ph, v.phase = some ph →
      15000 ≤ ph.period ∧ ph.period ≤ 22000 ∧ (start - ph.ref).toInt + n ≤ 2147483648) (x : Width) :
    v.mapTest start n x = true ↔ ∀ ph, v.phase = some ph → ∀ j b k, j < n →
      b = binAt ph.ref ph.period (start + BitVec.ofNat 32 j) → k < 4 ∧ (v.slicesAt x).has k = true →
      scoreAt v.cells b k ≤ v.shaping.acceptLevel := by
  unfold AdmissionView.mapTest
  split
  next unavailable => simp [unavailable]
  next ph available =>
    obtain ⟨low, high, near⟩ := phased ph available
    have bins : ∀ b, b < 64 → ((ph.span start n).has b = true ↔
        ∃ j, j < n ∧ b = binAt ph.ref ph.period (start + BitVec.ofNat 32 j)) :=
      fun b bin => phaseSpanIsTheBinsOfTheInterval ph start n b low high some' bin near
    rw [Bool.not_eq_true', ← Bool.not_eq_true, anyCell_iff]
    simp only [decide_eq_true_eq]
    constructor
    · intro clear ph' available' j b k within bin slice
      cases available.symm.trans available'
      have first : b < 64 := bin ▸ binAt_lt (by omega) _
      by_contra loud
      exact clear ⟨b, k, first, (bins b first).2 ⟨j, within, bin⟩, slice.1, slice.2, not_le.1 loud⟩
    · rintro quiet ⟨b, k, first, held, slice, has, loud⟩
      obtain ⟨j, within, bin⟩ := (bins b first).1 held
      exact absurd (quiet ph available j b k within bin ⟨slice, has⟩) (not_le.2 loud)

end

/-- Settles O21: the check is the neighbour test and the map test of the interval. -/
theorem checkOfAStart : Obligations.CheckOfAStart := by
  intro v start x n airtime some' regular phased
  have check : v.check start x = (v.neighbourTest start n && v.mapTest start n x) := by
    rw [AdmissionView.check, airtime]
  simp only [check, Bool.and_eq_true, neighbourTest_iff regular, mapTest_iff some' phased, slice_iff,
    AdmissionView.slicesAt]

end Sys2Proof.Machine
end

section
/-! What an admission decides (O25): every decision plans the start of R109, or defers to a candidate of the search. -/

namespace Sys2Proof.Machine

section
variable {v : AdmissionView} {s0 : Time}

/-! ### The candidates lie within the hold limit (R117 to R119) -/

theorem bounds_of_mem_binCandidates {o : Nat} (h : o ∈ v.binCandidates s0) : 1 ≤ o ∧ o ≤ v.shaping.holdLimit := by
  unfold AdmissionView.binCandidates at h
  split at h
  · cases h
  · obtain ⟨k, -, h⟩ := List.mem_flatMap.1 h
    obtain ⟨b, -, picked⟩ := List.mem_filterMap.1 h
    dsimp only at picked
    split at picked
    · cases picked; omega
    · cases picked

theorem bounds_of_mem_windowCandidates {o : Nat} (h : o ∈ v.windowCandidates s0) : 1 ≤ o ∧ o ≤ v.shaping.holdLimit := by
  obtain ⟨e, -, h⟩ := List.mem_flatMap.1 h
  obtain ⟨j, -, picked⟩ := List.mem_filterMap.1 h
  dsimp only at picked
  split at picked
  · cases picked; omega
  · cases picked

/-- Every candidate lies after S0 within the hold limit, and its radio time is not 0 (R119). -/
theorem bounds_of_mem_candidates {o : Nat} (h : o ∈ v.candidates s0) :
    1 ≤ o ∧ o ≤ v.shaping.holdLimit ∧ s0 + BitVec.ofNat 32 o + v.offset ≠ 0#32 := by
  obtain ⟨listed, nonzero⟩ | ⟨low, high, -, zero⟩ := mem_candidates.1 h
  · obtain bin | window := mem_mergedCandidates.1 listed
    · obtain ⟨low, high⟩ := bounds_of_mem_binCandidates bin
      exact ⟨low, high, nonzero⟩
    · obtain ⟨low, high⟩ := bounds_of_mem_windowCandidates window
      exact ⟨low, high, nonzero⟩
  · refine ⟨low, high, ?_⟩
    obtain ⟨p, rfl⟩ := Nat.exists_eq_add_of_le' low
    have next : s0 + BitVec.ofNat 32 (p + 1) + v.offset = s0 + BitVec.ofNat 32 p + v.offset + 1#32 := by
      rw [BitVec.ofNat_add]
      ac_rfl
    rw [next, show s0 + BitVec.ofNat 32 p + v.offset = 0#32 from zero]
    decide

/-! ### The decision -/

theorem canNarrow_iff : v.canNarrow = true ↔
    (v.frame.width = .mhz40 ∧ v.frame.narrowable = true) ∧ v.rates.entry v.frame.rate .mhz20 ≠ 0 := by
  simp [AdmissionView.canNarrow]

theorem reliefReached_eq_false_iff :
    v.reliefReached = false ↔ v.shaping.reliefCount = 0 ∨ v.relief < v.shaping.reliefCount := by
  simp [AdmissionView.reliefReached, imp_iff_not_or]

theorem undeferredStart_of_at (aligned : v.aligned = true) (estimate : v.startEstimate = .at s0) :
    v.undeferredStart = s0 := by
  simp [AdmissionView.undeferredStart, aligned, estimate]

/-- What the search gives: a candidate, reached by a deferral, or by a narrowing deferral of a frame that can be narrowed. -/
theorem search_eq_some {d : Decision} {t : Time} (h : v.search s0 = some (d, t)) :
    ∃ o ∈ v.candidates s0, t = s0 + BitVec.ofNat 32 o ∧ (d = .defer ∨ d = .narrowDefer ∧ v.canNarrow = true) := by
  obtain ⟨o, listed, tried⟩ := List.exists_of_findSome?_eq_some h
  refine ⟨o, listed, ?_⟩
  unfold AdmissionView.tryAt at tried
  split at tried
  · cases tried; exact ⟨rfl, .inl rfl⟩
  · split at tried
    next narrows => cases tried; exact ⟨rfl, .inr ⟨rfl, (Bool.and_eq_true_iff.1 narrows).1⟩⟩
    · cases tried

/-- The outcomes of the ladder (section 7.5): a PASS, a narrowing at the start of R109, or a deferral. -/
inductive Decided (v : AdmissionView) : Choice → Prop
  | passed (r : Reason) : Decided v { decision := .pass, reason := r, start := v.undeferredStart }
  | narrowed : v.canNarrow = true → Decided v { decision := .narrow, reason := .shaped, start := v.undeferredStart }
  | deferred {s0 : Time} {o : Nat} {d : Decision} : v.aligned = true → v.frame.pinned = false → v.frame.deferrable = true →
      v.reliefReached = false → v.startEstimate = .at s0 → o ∈ v.candidates s0 →
      (d = .defer ∨ d = .narrowDefer ∧ v.canNarrow = true) →
      Decided v { decision := d, reason := .shaped, start := s0 + BitVec.ofNat 32 o }

theorem decided_judge (aligned : v.aligned = true) (unpinned : v.frame.pinned = false) (estimate : v.startEstimate = .at s0) :
    Decided v (v.judge s0) := by
  have planned := undeferredStart_of_at aligned estimate
  have passed : ∀ r, Decided v { decision := .pass, reason := r, start := s0 } := fun r => planned ▸ .passed r
  unfold AdmissionView.judge
  split
  · exact passed _
  · split
    next narrows => exact planned ▸ .narrowed (Bool.and_eq_true_iff.1 narrows).1
    · split
      next deferrable =>
        split
        · exact passed _
        next unrelieved =>
          split
          next found =>
            obtain ⟨o, listed, rfl, kind⟩ := search_eq_some found
            exact .deferred aligned unpinned (Bool.and_eq_true_iff.1 deferrable).1 (by simpa using unrelieved) estimate listed kind
          · exact passed _
      · exact passed _

theorem decided_ladder (v : AdmissionView) : Decided v v.ladder := by
  unfold AdmissionView.ladder
  split
  · exact .passed _
  next unpinned =>
    split
    · exact .passed _
    next aligned =>
      have aligned : v.aligned = true := by simpa using aligned
      split
      · exact .passed _
      · split
        next nb far =>
          have planned : v.undeferredStart = nb := by simp [AdmissionView.undeferredStart, aligned, far]
          exact planned ▸ .passed _
        next estimate => exact decided_judge aligned (by simpa using unpinned) estimate

end

/-- The slice set of a width, by R57. -/
theorem coverage_eq (observed operating : Width) (position : Secondary) : coverage observed operating position =
    if observed = .mhz40 ∧ operating = .mhz40 then .all else if position = .below then .high else .low := by
  cases observed <;> cases operating <;> cases position <;> rfl

theorem notBeforeOf_of_ne {offset : Word} {t : Time} (h : t + offset ≠ 0#32) : notBeforeOf offset t = t + offset := if_neg h

/-- What an admission hands on for an outcome of the ladder (R123). -/
def AdmissionView.handed (v : AdmissionView) (c : Choice) : Verdict :=
  { decision := c.decision
    reason := c.reason
    width := v.deliveredWidth c.decision
    notBefore := if c.decision.defers then some (notBeforeOf v.offset c.start) else none
    plannedStart := c.start
    airtime := v.deliveredAirtime c.decision
    slices := v.slicesAt (v.deliveredWidth c.decision)
    plannedEnd := later c.start (v.deliveredAirtime c.decision) }

theorem verdict_eq_handed (v : AdmissionView) : v.verdict = v.handed v.ladder := rfl

/-- Settles O25: the ladder's outcomes one by one; a deferral is to a candidate of the search. -/
theorem deferralsAreBounded : Obligations.DeferralsAreBounded := by
  intro v
  have decided := decided_ladder v
  rw [verdict_eq_handed]
  generalize v.ladder = c at decided ⊢
  have slices := coverage_eq (v.deliveredWidth c.decision) v.radio.width v.radio.secondary
  cases decided with
  | passed r => exact ⟨nofun, fun _ => ⟨rfl, rfl⟩, nofun, fun _ => rfl, slices, rfl, rfl⟩
  | narrowed can =>
    obtain ⟨⟨width, narrowable⟩, -⟩ := canNarrow_iff.1 can
    exact ⟨nofun, fun _ => ⟨rfl, rfl⟩, fun _ => ⟨width, narrowable, rfl, rfl⟩, nofun, slices, rfl, rfl⟩
  | @deferred s0 o d aligned unpinned deferrable unrelieved estimate listed kind =>
    obtain ⟨low, high, nonzero⟩ := bounds_of_mem_candidates listed
    have defers : d.defers = true := by obtain rfl | ⟨rfl, -⟩ := kind <;> rfl
    refine ⟨fun _ => ⟨aligned, unpinned, deferrable, rfl, reliefReached_eq_false_iff.1 unrelieved, s0, o, estimate, low, high,
      rfl, nonzero, ?_⟩, ?_, ?_, ?_, slices, rfl, rfl⟩
    · rw [AdmissionView.handed, if_pos defers, notBeforeOf_of_ne nonzero]
    · rintro (rfl | rfl) <;> cases defers
    · obtain rfl | ⟨rfl, can⟩ := kind
      · exact nofun
      · obtain ⟨⟨width, narrowable⟩, -⟩ := canNarrow_iff.1 can
        exact fun _ => ⟨width, narrowable, rfl, rfl⟩
    · obtain rfl | ⟨rfl, -⟩ := kind
      · exact fun _ => rfl
      · exact nofun

end Sys2Proof.Machine
end

section
/-! The RADIO record (O47): the first check that fails, and what a change of channel, width or secondary position empties. -/

namespace Sys2Proof.Machine

/-! ### The fields a RADIO record carries (R150) -/

theorem field_high_recordFrame (kind : BitVec 8) (body : RecordBody) (lo : Nat) :
    field (recordFrame kind body).w1 (16 + lo) 8 = (body.high.extractLsb' lo 8).toNat := by
  unfold field recordFrame
  rw [BitVec.extractLsb'_append_eq_of_le (by omega), BitVec.extractLsb'_append_eq_of_le (by omega),
    show 16 + lo - 8 - 8 = lo by omega]

section
variable {w : Words8} {channel width code preamble : Nat}

/-- A RADIO record with these numbers in its channel, width, secondary and preamble fields. -/
structure RadioNumbers (w : Words8) (channel width code preamble : Nat) : Prop where
  channel : field w.w1 16 8 = channel
  width : field w.w1 24 8 = width
  code : field w.w2 0 2 = code
  preamble : field w.w2 8 8 = preamble

namespace RadioNumbers

theorem badChannel (h : RadioNumbers w channel width code preamble) (bad : channel = 0 ∨ 14 < channel) :
    radioCarried w = .error .channel := by
  simp only [radioCarried, h.channel]
  rw [if_pos (by omega)]

theorem badWidth (h : RadioNumbers w channel width code preamble) (low : 1 ≤ channel) (high : channel ≤ 14)
    (not20 : width ≠ 20) (not40 : width ≠ 40) : radioCarried w = .error .width := by
  have unnamed : widthOfNumber width = none := by simp [widthOfNumber, not20, not40]
  simp only [radioCarried, h.channel, h.width, unnamed]
  rw [if_neg (by omega)]

theorem badSecondary (h : RadioNumbers w channel width code preamble) (low : 1 ≤ channel) (high : channel ≤ 14)
    (bad : width = 20 ∧ code ≠ 0 ∨ width = 40 ∧ (code = 0 ∨ code = 3)) : radioCarried w = .error .secondary := by
  have few : code < 4 := h.code ▸ field_lt w.w2 0 2
  have codes : (width = 20 ∧ (code = 1 ∨ code = 2 ∨ code = 3)) ∨ (width = 40 ∧ (code = 0 ∨ code = 3)) := by omega
  simp only [radioCarried, h.channel, h.width, h.code]
  rw [if_neg (by omega)]
  obtain ⟨rfl, rfl | rfl | rfl⟩ | ⟨rfl, rfl | rfl⟩ := codes <;> rfl

theorem accepted (h : RadioNumbers w channel width code preamble) (low : 1 ≤ channel) (high : channel ≤ 14) {x : Width}
    {y : Secondary} (agree : (width, code, x, y) ∈
      [(20, 0, Width.mhz20, Secondary.none), (40, 1, .mhz40, .above), (40, 2, .mhz40, .below)]) :
    radioCarried w = .ok { channel := some channel, width := x, secondary := y, preamble := max 16 preamble
                           latency := field w.w2 16 8, access := field w.w3 0 12 } := by
  simp only [radioCarried, h.channel, h.width, h.code, h.preamble]
  rw [if_neg (by omega)]
  simp only [List.mem_cons, Prod.mk.injEq, List.not_mem_nil, or_false] at agree
  obtain ⟨rfl, rfl, rfl, rfl⟩ | ⟨rfl, rfl, rfl, rfl⟩ | ⟨rfl, rfl, rfl, rfl⟩ := agree <;> rfl

end RadioNumbers

end

/-! ### A change of the RADIO fields (R64, R66, R139) -/

section
variable {s : State} {old new : RadioFields}

/-- Another channel empties the FIFO, and clears the map, the neighbour table and the pending list. -/
theorem radioChange_channel (moved : old.channel ≠ new.channel) : s.radioChange old new = { s with
    intake := { fifo := [], fold := none, lastSequence := none }
    map := { s.map with requests := s.map.requests.map MapRequest.orphaned ++ [.clear] }
    schedule := { s.schedule with requests := s.schedule.requests.map ScheduleRequest.orphaned ++ [.clear] }
    rewriter := { s.rewriter with entries := [] } } := if_pos moved

/-- Another width or secondary position voids the entries, and clears the map, the neighbour table and the pending list. -/
theorem radioChange_place (stays : old.channel = new.channel)
    (moved : old.width ≠ new.width ∨ old.secondary ≠ new.secondary) : s.radioChange old new = { s with
      intake := { s.intake with fifo := s.intake.fifo.map fun e => { e with voidMap := true, voidNeighbour := true } }
      map := { s.map with requests := s.map.requests ++ [.clear] }
      schedule := { s.schedule with requests := s.schedule.requests ++ [.clear] }
      rewriter := { s.rewriter with entries := [] } } := by
  rw [State.radioChange, if_neg (by simp [stays]), if_pos moved]
  simp [State.sendMapClear, State.voidForMap, State.sendMap, State.sendNeighbourClear, State.voidForNeighbour,
    State.sendSchedule, State.emptyPending, Function.comp_def]

theorem radioChange_none (channel : old.channel = new.channel) (width : old.width = new.width)
    (secondary : old.secondary = new.secondary) : s.radioChange old new = s := by
  simp [State.radioChange, channel, width, secondary]

/-- A change of the RADIO fields reaches neither the policy, the Report Unit nor the ports. -/
theorem radioChange_policy (s : State) (old new : RadioFields) : (s.radioChange old new).policy = s.policy := by
  obtain ⟨_, _, _, _, h⟩ := s.radioChange_touches old new
  rw [h]

theorem radioChange_report (s : State) (old new : RadioFields) : (s.radioChange old new).report = s.report := by
  obtain ⟨_, _, _, _, h⟩ := s.radioChange_touches old new
  rw [h]

theorem radioChange_bus (s : State) (old new : RadioFields) : (s.radioChange old new).bus = s.bus := by
  obtain ⟨_, _, _, _, h⟩ := s.radioChange_touches old new
  rw [h]

end

theorem judgeRecord_of_radio {w : Words8} (h : w.kindCode = 2#8) (s : State) : s.judgeRecord w = s.judgeRadio w := by
  simp [State.judgeRecord, h]

/-- A RADIO record is judged. -/
theorem exec_radio {s : State} {addr : Addr} {body : RecordBody} (takes : TakesRecord s addr)
    (sum : (recordFrame 2#8 body).sum = 0#32) : exec (.radio addr body) s =
      .next ((s.carried addr (recordFrame 2#8 body)).judgeRadio (recordFrame 2#8 body)).driveLines := by
  have done := exec_of_judged (c := .radio addr body) takes (writesRecord_of_presented rfl rfl) sum
  rwa [judgeRecord_of_radio (kindCode_recordFrame ..)] at done

/-- A RADIO record that passes its checks: accepted, its fields held, and what a change of them made stale cleared. -/
theorem judgeRadio_accepted {s : State} {addr : Addr} {body : RecordBody} {new : RadioFields}
    (carried : radioCarried (recordFrame 2#8 body) = .ok new) : ∃ report',
      (s.carried addr (recordFrame 2#8 body)).judgeRadio (recordFrame 2#8 body) =
        State.radioChange { s.carried addr (recordFrame 2#8 body) with
          policy := { s.policy.afterKind 2 body.sequence with radio := new }, report := report' } s.policy.radio new ∧
      Reported [.policyAccepted] (if field (recordFrame 2#8 body).w2 8 8 < 16 then [.clamp] else []) s
        { s with report := report' } := by
  obtain ⟨report', accepted, reported⟩ := acceptConfiguration_eq s addr (w := recordFrame 2#8 body) (kind := 2)
    (kindCode_recordFrame ..) (decide (field (recordFrame 2#8 body).w2 8 8 < 16))
  refine ⟨report', ?_, by simpa using reported⟩
  rw [State.judgeRadio, carried]
  simp only [accepted, sequence_recordFrame]
  rfl

/-- Settles O47: the first check that fails refuses the record; otherwise the change of the RADIO fields takes one of three
courses. -/
theorem radioRecord : Obligations.RadioRecord := by
  intro s addr body channel width code preamble takes sum hchannel hwidth hcode hpreamble
  have numbers : RadioNumbers (recordFrame 2#8 body) channel width code preamble :=
    ⟨(field_high_recordFrame 2#8 body 0).trans hchannel.symm,
      (field_high_recordFrame 2#8 body 8).trans hwidth.symm, hcode.symm, hpreamble.symm⟩
  have refused : ∀ r, radioCarried (recordFrame 2#8 body) = .error r → RefusedWith r body.sequence s
      ((s.carried addr (recordFrame 2#8 body)).judgeRadio (recordFrame 2#8 body)).driveLines := by
    intro r h
    have := refusedWith_refuse s addr (recordFrame 2#8 body) r
    rw [sequence_recordFrame] at this
    simpa only [State.judgeRadio, h] using this
  obtain ⟨_, _, _, _, _, _, touches⟩ := (s.carried addr (recordFrame 2#8 body)).judgeRadio_touches (recordFrame 2#8 body)
  refine ⟨_, exec_radio takes sum, carriedRecord_of_bus takes s.bus.windows (by rw [touches]; rfl),
    fun bad => refused _ (numbers.badChannel bad), fun low high not20 not40 => refused _ (numbers.badWidth low high not20 not40),
    fun low high bad => refused _ (numbers.badSecondary low high bad), ?_⟩
  intro x y agree low high new hnew
  have carried : radioCarried (recordFrame 2#8 body) = .ok new := by
    have held : max 16 preamble = if preamble < 16 then 16 else preamble := by split <;> omega
    rw [numbers.accepted low high agree, hnew, held]
    rfl
  subst hnew
  obtain ⟨report', judged, reported⟩ := judgeRadio_accepted (s := s) (addr := addr) carried
  rw [numbers.preamble] at reported
  rw [judged]
  refine ⟨by rw [State.driveLines_policy, radioChange_policy], by rw [State.driveLines_bus, radioChange_bus]; rfl,
    (reported.congr rfl (by rw [radioChange_report])).driveLines, fun moved => ?_,
    fun stays => ⟨fun moved => ?_, fun sameWidth sameSecondary => ?_⟩⟩
  · rw [radioChange_channel (by exact moved)]
    exact ⟨OnlyIn.driveLines (by simp [onlyIn_iff, State.carried, State.forward]) (by simp), rfl, rfl, rfl, rfl⟩
  · rw [radioChange_place (by exact stays) (by exact moved)]
    exact ⟨OnlyIn.driveLines (by simp [onlyIn_iff, State.carried, State.forward]) (by simp), rfl, rfl, rfl, rfl⟩
  · rw [radioChange_none (by exact stays) (by exact sameWidth) (by exact sameSecondary)]
    exact OnlyIn.driveLines (by simp [onlyIn_iff, State.carried, State.forward]) (by simp)

end Sys2Proof.Machine
end

section
/-! The score steps (O32): both are ceilings of a distance over 2^k, and a ceiling is fixed by the multiples that cover it. -/

namespace Sys2Proof.Machine

/-! ### The ceiling of a quotient (section 3.4) -/

section
variable {b : Nat}

theorem ceilDiv_le_iff (pos : 0 < b) (a c : Nat) : ceilDiv a b ≤ c ↔ a ≤ c * b := by
  rw [Nat.mul_comm]
  exact ceilDiv_le_iff_le_mul pos

theorem le_ceilDiv_mul (pos : 0 < b) (a : Nat) : a ≤ ceilDiv a b * b := (ceilDiv_le_iff pos a _).1 le_rfl

theorem ceilDiv_le_self (pos : 0 < b) (a : Nat) : ceilDiv a b ≤ a :=
  (ceilDiv_le_iff pos a a).2 (Nat.le_mul_of_pos_right a pos)

theorem ceilDiv_pos (pos : 0 < b) {a : Nat} (some' : 0 < a) : 0 < ceilDiv a b := by
  have covered := le_ceilDiv_mul pos a
  exact Nat.pos_of_mul_pos_right (some'.trans_le covered)

/-- A ceiling grows by no more than the distance does. -/
theorem ceilDiv_add_le (pos : 0 < b) (a d : Nat) : ceilDiv (a + d) b ≤ ceilDiv a b + d := by
  rw [ceilDiv_le_iff pos, Nat.add_mul]
  exact Nat.add_le_add (le_ceilDiv_mul pos a) (Nat.le_mul_of_pos_right d pos)

end

/-! ### Rise and Fall (R69) -/

section
variable (k : Nat)

theorem fallScore_le (s : Nat) : fallScore s k ≤ s := Nat.sub_le ..

theorem fallScore_lt {s : Nat} (some' : 0 < s) : fallScore s k < s :=
  Nat.sub_lt some' (ceilDiv_pos (Nat.two_pow_pos k) some')

theorem fallScore_mono {a b : Nat} (h : a ≤ b) : fallScore a k ≤ fallScore b k := by
  obtain ⟨d, rfl⟩ := Nat.exists_eq_add_of_le h
  have grows := ceilDiv_add_le (Nat.two_pow_pos k) a d
  have within := ceilDiv_le_self (Nat.two_pow_pos k) a
  unfold fallScore
  omega

theorem le_riseScore (s : Nat) : s ≤ riseScore s k := Nat.le_add_right ..

theorem riseScore_le {s : Nat} (h : s ≤ 255) : riseScore s k ≤ 255 := by
  have within := ceilDiv_le_self (Nat.two_pow_pos k) (255 - s)
  unfold riseScore
  omega

theorem lt_riseScore {s : Nat} (h : s < 255) : s < riseScore s k :=
  Nat.lt_add_of_pos_right (ceilDiv_pos (Nat.two_pow_pos k) (Nat.sub_pos_of_lt h))

theorem riseScore_mono {a b : Nat} (h : a ≤ b) (top : b ≤ 255) : riseScore a k ≤ riseScore b k := by
  have grows := ceilDiv_add_le (Nat.two_pow_pos k) (255 - b) (b - a)
  rw [show 255 - b + (b - a) = 255 - a by omega] at grows
  unfold riseScore
  omega

theorem riseScore_top : riseScore 255 k = 255 := (riseScore_le k le_rfl).antisymm (le_riseScore k 255)

theorem fallScore_bottom : fallScore 0 k = 0 := Nat.le_zero.1 (fallScore_le k 0)

/-- As many Falls as the score has steps reach 0. -/
theorem fallScore_iterate {n s : Nat} (h : s ≤ n) : (fallScore · k)^[n] s = 0 := by
  induction n generalizing s with
  | zero => exact Nat.le_zero.1 h
  | succ n ih =>
    rw [Function.iterate_succ_apply]
    refine ih ?_
    obtain rfl | some' := Nat.eq_zero_or_pos s
    · exact (fallScore_le k 0).trans (Nat.zero_le n)
    · exact Nat.le_of_lt_succ ((fallScore_lt k some').trans_le h)

/-- As many Rises as the score is short of 255 reach 255. -/
theorem riseScore_iterate {n s : Nat} (top : s ≤ 255) (h : 255 ≤ s + n) : (riseScore · k)^[n] s = 255 := by
  induction n generalizing s with
  | zero => exact top.antisymm h
  | succ n ih =>
    rw [Function.iterate_succ_apply]
    refine ih (riseScore_le k top) ?_
    obtain rfl | short := top.eq_or_lt
    · exact (le_riseScore k 255).trans (Nat.le_add_right _ n)
    · have rises := lt_riseScore k short
      omega

end

/-- Settles O32: each clause by the lemma that says it; both steps are ceilings of a distance. -/
theorem scoreSteps : Obligations.ScoreSteps := by
  intro k _ _
  have pos := Nat.two_pow_pos k
  refine ⟨fun s top => ⟨⟨_, rfl, le_ceilDiv_mul pos _, rfl⟩,
    ⟨_, Nat.sub_add_cancel (ceilDiv_le_self pos s), le_ceilDiv_mul pos s, rfl⟩, le_riseScore k s, riseScore_le k top,
    fun short => lt_riseScore k short, riseScore_top k, fallScore_le k s, fun some' => fallScore_lt k some',
    fallScore_bottom k, riseScore_iterate k top (Nat.le_add_left 255 s), fallScore_iterate k top⟩,
    fun a b le top => ⟨riseScore_mono k le top, fallScore_mono k le⟩⟩

end Sys2Proof.Machine
end

section
/-! The Occupancy Map's invariant (O53): its five services keep it, and every other operation at most sends the Map requests. -/

namespace Sys2Proof.Machine

/-! ### Scores and the recount (R69, R81) -/

theorem CellStep.apply_le (c : CellStep) {score : Nat} (h : score ≤ 255) : c.apply score ≤ 255 := by
  cases c with
  | rise k => exact riseScore_le k h
  | fall k => exact (fallScore_le k score).trans h

theorem stepScore_le (step : Option CellStep) {score : Nat} (h : score ≤ 255) : stepScore step score ≤ 255 := by
  cases step with
  | none => exact h
  | some c => exact c.apply_le h

theorem countHot_zero {level : Nat} (pos : 1 ≤ level) : countHot (Vector.replicate 256 0) level = 0 := by
  rw [countHot, List.countP_eq_zero]
  intro c hc
  obtain ⟨-, rfl⟩ := Vector.mem_replicate.1 (Vector.mem_toList_iff.1 hc)
  simpa using Nat.ne_of_gt pos

section
variable {m : OccupancyMap}

/-- The requests enter the invariant by the settings among them. -/
theorem OccupancyMap.Inv.withRequests (inv : m.Inv) {l : List MapRequest} (legal : ∀ x, .settings x ∈ l → x.Legal) :
    OccupancyMap.Inv { m with requests := l } := by
  obtain ⟨scores, hot, settings, age, sequence, -⟩ := inv
  exact ⟨scores, hot, settings, age, sequence, legal⟩

theorem OccupancyMap.Inv.requests_legal (inv : m.Inv) {x : MapSettings} (sent : .settings x ∈ m.requests) : x.Legal := by
  obtain ⟨-, -, -, -, -, legal⟩ := inv
  exact legal x sent

/-- Cells, settings and a cycle-age count in range, with the hot cells counted anew. -/
theorem OccupancyMap.Inv.recounted (inv : m.Inv) {cells : Vector Nat 256} {settings : MapSettings} {age : Nat}
    (scores : ∀ i : Fin 256, cells[i] ≤ 255) (legal : settings.Legal) (counts : age = 0 ∨ age < settings.agePeriod) :
    OccupancyMap.Inv { m with
      cells := cells, settings := settings, cycleAge := age, hotCount := countHot cells settings.hotLevel } := by
  obtain ⟨held, -, -, -, sequence, sent⟩ := inv
  exact ⟨fun i => ⟨scores i, (held i).2⟩, countHot_eq .., legal, counts, sequence, sent⟩

end

/-! ### Requests sent and served (R70) -/

section
variable {s : State}

theorem sendMap_map_inv (inv : s.map.Inv) {q : MapRequest} (legal : ∀ x, q = .settings x → x.Legal) :
    (s.sendMap q).map.Inv := by
  refine inv.withRequests fun x hx => ?_
  obtain earlier | rfl := List.mem_append.1 hx |>.imp_right List.mem_singleton.1
  · exact inv.requests_legal earlier
  · exact legal x rfl

theorem popMap_map_inv (inv : s.map.Inv) : s.popMap.map.Inv :=
  inv.withRequests fun _ hx => inv.requests_legal (List.mem_of_mem_tail hx)

theorem sendMapClear_map_inv (inv : s.map.Inv) : s.sendMapClear.map.Inv := sendMap_map_inv (s := s.voidForMap) inv nofun

theorem referenceEvents_map_inv (inv : s.map.Inv) : s.referenceEvents.map.Inv := by
  have aged : (s.sendMap .age).map.Inv := sendMap_map_inv inv nofun
  exact sendMap_map_inv aged nofun

/-- Orphaned requests carry the same settings (R66). -/
theorem emptyFifo_map_inv (inv : s.map.Inv) : s.emptyFifo.map.Inv := by
  refine inv.withRequests fun x hx => ?_
  obtain ⟨q, sent, same⟩ := List.mem_map.1 hx
  cases q with
  | settings y => cases same; exact inv.requests_legal sent
  | _ => cases same

/-! ### The five services -/

theorem serveEvidence_map_inv (inv : s.map.Inv) (e : Evidence) : (s.serveEvidence e).map.Inv := by
  obtain ⟨scores, -, settings, age, -⟩ := id inv
  rw [State.serveEvidence, (State.recount_effect _).1]
  exact inv.recounted (fun i => by simpa [applyEvidence] using stepScore_le (e.stepAt i) (scores i).1) settings age

theorem serveAge_map_inv (inv : s.map.Inv) : s.serveAge.map.Inv := by
  obtain ⟨scores, -, settings, -⟩ := id inv
  unfold State.serveAge
  split
  · rw [(State.recount_effect _).1]
    exact inv.recounted (fun i => (scores i).1) settings (.inl rfl)
  · split
    next counts =>
      rw [(State.recount_effect _).1]
      exact inv.recounted (fun i => (scores i).1) settings (.inr counts)
    · rw [(State.recount_effect _).1]
      refine inv.recounted (fun i => ?_) settings (.inl rfl)
      simpa [State.ageingPass] using (fallScore_le s.map.settings.ageShift s.map.cells[i]).trans (scores i).1

theorem serveClear_map_inv (inv : s.map.Inv) : s.serveClear.map.Inv := by
  obtain ⟨-, -, settings, -⟩ := id inv
  have cleared := inv.recounted (cells := Vector.replicate 256 0) (fun i => by simp) settings (.inl rfl)
  rw [countHot_zero settings.1] at cleared
  exact sendMap_map_inv cleared nofun

theorem serveSettings_map_inv (inv : s.map.Inv) {x : MapSettings} (legal : x.Legal) : (s.serveSettings x).map.Inv := by
  obtain ⟨scores, -, -, age, -⟩ := id inv
  rw [State.serveSettings, (State.recount_effect _).1]
  refine inv.recounted (fun i => (scores i).1) legal ?_
  split
  next same => rwa [same]
  · exact .inl rfl

theorem takeSnapshot_map_inv (inv : s.map.Inv) : s.takeSnapshot.map.Inv := by
  unfold State.takeSnapshot
  split
  · obtain ⟨scores, hot, settings, age, -, sent⟩ := popMap_map_inv inv
    exact ⟨fun i => ⟨(scores i).1, (scores i).1⟩, hot, settings, age, Nat.le_of_lt_succ (Nat.mod_lt _ (by decide)), sent⟩
  · exact inv

/-! ### The folds' evidence (R56) -/

theorem startFold_map (s : State) : s.startFold.map = s.map := by
  obtain ⟨_, _, _, h⟩ := s.startFold_touches
  rw [h]

theorem endFold_map (s : State) : s.endFold.map = s.map := s.endFoldIf_map true

theorem handToMap_map_inv (inv : s.map.Inv) (f : Fold) (e : Evidence) : (s.handToMap f e).map.Inv := sendMap_map_inv inv nofun

theorem endFold_map_inv (inv : s.map.Inv) : s.endFold.map.Inv := by rwa [endFold_map]

theorem giveEvidence_map_inv (inv : s.map.Inv) (f : Fold) (a : Time) (n : Nat) (set : SliceSet) (k : CellStep) :
    (s.giveEvidence f a n set k).map.Inv := by
  unfold State.giveEvidence
  split
  · exact endFold_map_inv inv
  · exact handToMap_map_inv inv ..

theorem foldSpectral_map_inv (inv : s.map.Inv) (f : Fold) (x : SpectralEntry) (v : Bool) : (s.foldSpectral f x v).map.Inv := by
  obtain ⟨_, _, compared⟩ := s.compareSequence_touches x.sequence
  rw [State.foldSpectral, compared]
  unfold State.foldSweep
  split
  · exact endFold_map_inv inv
  · split
    · exact endFold_map_inv inv
    · split
      · exact endFold_map_inv inv
      · split
        · exact endFold_map_inv inv
        · exact handToMap_map_inv (by exact inv) ..

theorem foldReceive_map_inv (inv : s.map.Inv) (f : Fold) (x : ReceiveEntry) (v n : Bool) : (s.foldReceive f x v n).map.Inv := by
  unfold State.foldReceive
  split
  · unfold State.foldFrameEvidence
    split
    · exact endFold_map_inv inv
    · split
      · exact giveEvidence_map_inv inv ..
      · exact endFold_map_inv inv
  · split
    · exact endFold_map_inv inv
    · exact inv
  · exact endFold_map_inv inv
  · exact endFold_map_inv inv

theorem foldCompletion_map_inv (inv : s.map.Inv) (f : Fold) (x : CompletionEntry) (v : Bool) :
    (s.foldCompletion f x v).map.Inv := by
  unfold State.foldCompletion
  split
  · exact giveEvidence_map_inv inv ..
  · exact endFold_map_inv inv

/-! ### The tracker's requests (R41, R46) -/

theorem gainLock_map_inv (inv : s.map.Inv) (t : Time) (p : Nat) : (s.gainLock t p).map.Inv := by
  unfold State.gainLock
  refine referenceEvents_map_inv ?_
  show (s.setFlag .lockGained).relockClear.map.Inv
  unfold State.relockClear
  split
  · exact sendMapClear_map_inv inv
  · exact inv

theorem referenceInLocking_map_inv (inv : s.map.Inv) (t : Time) (p : Int) : (s.referenceInLocking t p).map.Inv := by
  unfold State.referenceInLocking
  split
  · exact inv
  · split
    · exact inv
    · split
      · exact gainLock_map_inv inv ..
      · exact inv

theorem referenceInLocked_map_inv (inv : s.map.Inv) (t : Time) (p : Int) : (s.referenceInLocked t p).map.Inv := by
  unfold State.referenceInLocked
  split
  · exact inv
  · split
    · exact inv
    · exact referenceEvents_map_inv inv

theorem referenceInCoasting_map_inv (inv : s.map.Inv) (t : Time) (p : Int) : (s.referenceInCoasting t p).map.Inv := by
  unfold State.referenceInCoasting
  split
  · exact inv
  · split
    · exact inv
    · exact referenceEvents_map_inv inv

theorem referenceEdge_map_inv (inv : s.map.Inv) (t : Time) : (s.referenceEdge t).map.Inv := by
  unfold State.referenceEdge
  split
  · exact inv
  · exact inv
  · exact inv
  · unfold State.referenceInSeeking
    split <;> exact inv
  · exact referenceInLocking_map_inv inv ..
  · exact referenceInLocked_map_inv inv ..
  · exact referenceInCoasting_map_inv inv ..

theorem mainsTransition_map_inv (inv : s.map.Inv) (rising : Bool) : (s.mainsTransition rising).map.Inv := by
  simp only [State.mainsTransition]
  split
  · exact inv
  · split
    · unfold State.considerEdge
      split
      · simp only [State.acceptEdge]
        split
        · exact inv
        · exact referenceEdge_map_inv (by exact inv) _
      · exact inv
    · exact inv

theorem takeLockExpiry_map_inv (inv : s.map.Inv) : s.takeLockExpiry.map.Inv := by
  unfold State.takeLockExpiry
  split
  · exact referenceEvents_map_inv inv
  · exact inv

theorem takeCoastExpiry_map_inv (inv : s.map.Inv) : s.takeCoastExpiry.map.Inv := by
  unfold State.takeCoastExpiry
  split
  · split
    · exact referenceEvents_map_inv inv
    · exact inv
  · exact inv

theorem takeTrackerExpiry_map_inv (inv : s.map.Inv) : s.takeTrackerExpiry.map.Inv := by
  unfold State.takeTrackerExpiry
  split
  · exact takeLockExpiry_map_inv inv
  · exact takeCoastExpiry_map_inv inv
  · exact inv

/-- The microsecond reaches the Map by the tracker's expiry alone. -/
theorem tickMicrosecond_map_inv (inv : s.map.Inv) : s.tickMicrosecond.map.Inv := by
  unfold State.tickMicrosecond
  split
  · exact inv
  · obtain ⟨_, _, _, tick⟩ := s.takeTick_touches
    obtain ⟨_, _, stales⟩ := s.takeTick.takeTrackerExpiry.takeStales_touches
    obtain ⟨_, misses⟩ := s.takeTick.takeTrackerExpiry.takeStales.takeMisses_touches
    rw [State.advance_map, State.settle, misses, stales]
    refine takeTrackerExpiry_map_inv ?_
    rw [tick]
    exact inv

/-- The end of a report read may let a snapshot be copied (R80). -/
theorem nextReportWord_map_inv (inv : s.map.Inv) : s.nextReportWord.map.Inv := by
  simp only [State.nextReportWord]
  split
  · split
    · exact takeSnapshot_map_inv (by exact inv)
    · exact inv
  · exact inv

/-! ### Control records -/

theorem acceptConfiguration_map (s : State) (w : Words8) (k : Nat) (b : Bool) :
    (s.acceptConfiguration w k b).map = s.map := by
  obtain ⟨_, _, h⟩ := s.acceptConfiguration_touches w k b
  rw [h]

theorem radioChange_map_inv (inv : s.map.Inv) (old new : RadioFields) : (s.radioChange old new).map.Inv := by
  unfold State.radioChange
  split
  · exact sendMapClear_map_inv (emptyFifo_map_inv inv)
  · split
    · exact sendMapClear_map_inv inv
    · exact inv

theorem trackerSettings_map_inv (inv : s.map.Inv) (mode : EdgeMode) (n : Nat) : (s.trackerSettings mode n).map.Inv := by
  unfold State.trackerSettings
  split
  · exact inv
  · exact sendMapClear_map_inv inv

theorem judgeClear_map_inv (inv : s.map.Inv) (w : Words8) : (s.judgeClear w).map.Inv := by
  rw [State.judgeClear_eq]
  cases flagBit w.w2 0 with
  | false => exact inv.withRequests fun x hx => inv.requests_legal (by simpa using hx)
  | true => exact sendMapClear_map_inv inv

/-- A record reaches the Map by the requests that it sends there, or resets it. -/
theorem judgeRecord_map_inv (inv : s.map.Inv) (w : Words8) : (s.judgeRecord w).map.Inv := by
  have accepted : ∀ k b, (s.acceptConfiguration w k b).map.Inv := fun k b => by rwa [acceptConfiguration_map]
  unfold State.judgeRecord
  split
  · obtain ⟨_, _, _, _, same⟩ := s.judgeWindows_touches w
    rw [same]; exact inv
  · unfold State.judgeRadio
    split
    · exact inv
    · exact radioChange_map_inv (by exact accepted 2 (decide (field w.w2 8 8 < 16))) ..
  · obtain ⟨_, _, same⟩ := s.judgeRates_touches w 3 0
    rw [same]; exact inv
  · obtain ⟨_, _, same⟩ := s.judgeRates_touches w 4 8
    rw [same]; exact inv
  · exact trackerSettings_map_inv (by exact accepted 5 (field w.w2 8 4 == 0)) ..
  · obtain ⟨-, -, -, -, -, -, -, -, -, legal⟩ := mapCarried_legal w
    refine sendMap_map_inv (by exact accepted 6 (w.mapCarried.clamped != w.mapCarried)) fun x hx => ?_
    cases hx
    exact legal
  · obtain ⟨_, _, _, same⟩ := s.judgeNeighbour_touches w
    rw [same]; exact inv
  · obtain ⟨_, _, same⟩ := s.judgeShaping_touches w
    rw [same]; exact inv
  · obtain ⟨_, _, _, same⟩ := s.judgeKeepalive_touches w
    rw [same]; exact inv
  · exact inv
  · exact judgeClear_map_inv inv w
  · exact map_reset_inv
  · exact inv

/-- Of the transfers only a control record reaches the Map. -/
theorem takeTransfer_map_inv (inv : s.map.Inv) (x : Transfer) : (s.takeTransfer x).map.Inv := by
  have course := taking s x
  generalize s.takeTransfer x = u at course ⊢
  cases course with
  | refused => exact inv
  | passed => unfold State.passThrough; split <;> exact inv
  | @read tag addr ws => obtain ⟨_, _, _, _, same⟩ := s.takeRead_touches tag addr ws; rw [same]; exact inv
  | @txWrite addr words => obtain ⟨_, same⟩ := s.takeTxWrite_touches addr words; rw [same]; exact inv
  | @rxWrite addr words => obtain ⟨_, same⟩ := s.takeRxWrite_touches addr words; rw [same]; exact inv
  | otherWrite => exact inv
  | @cpuWrite addr words =>
    obtain ⟨_, _, same⟩ := (s.forward (forwardedWrite .cpu addr words)).abandonments_touches addr words.length
    rw [same]; exact inv
  | @record addr w =>
    by_cases sum : w.sum = 0#32
    · rw [checkRecord_of_sum sum]; exact judgeRecord_map_inv (s := s.carried addr w) inv w
    · rw [checkRecord_of_sum_ne sum]; exact inv

end

/-! ### Every command -/

/-- Every effect keeps the Map's invariant. -/
theorem Effect.keeps_map_inv {c : Instr} {s u : State} (inv : s.map.Inv) (e : Effect c s u) : u.map.Inv := by
  have begun : s.startFold.map.Inv := by rwa [startFold_map]
  cases e with
  | idle => exact inv
  | pinReset => exact map_reset_inv
  | released => exact inv
  | presents => exact takeTransfer_map_inv inv _
  | tick => obtain ⟨_, _, _, h⟩ := s.takeTick_touches; rw [h]; exact inv
  | microsecond => exact tickMicrosecond_map_inv inv
  | descriptor => obtain ⟨_, _, _, _, h⟩ := s.nextDescriptor_touches; rw [h]; exact inv
  | reportWord => exact nextReportWord_map_inv inv
  | completionWord => obtain ⟨_, _, _, _, _, h⟩ := s.nextCompletion_touches; rw [h]; exact inv
  | record => obtain ⟨_, _, _, _, h⟩ := s.nextRecord_touches; rw [h]; exact inv
  | @admission v => obtain ⟨_, _, _, _, h⟩ := s.endAdmission_touches v; rw [h]; exact inv
  | stale i => obtain ⟨_, _, h⟩ := s.takeStale_touches i; rw [h]; exact inv
  | mainsEdge r => exact mainsTransition_map_inv inv r
  | lockExpiry => exact takeLockExpiry_map_inv inv
  | coastExpiry => exact takeCoastExpiry_map_inv inv
  | spectralFold => exact foldSpectral_map_inv begun ..
  | receiveFold => exact foldReceive_map_inv begun ..
  | completionFold => exact foldCompletion_map_inv begun ..
  | evidence => rw [State.endFoldIf_map]; exact serveEvidence_map_inv (popMap_map_inv inv) _
  | age => exact serveAge_map_inv (popMap_map_inv inv)
  | mapClear => exact serveClear_map_inv (popMap_map_inv inv)
  | mapSettings head => exact serveSettings_map_inv (popMap_map_inv inv) (inv.requests_legal (head ▸ List.mem_cons_self))
  | snapshot => exact takeSnapshot_map_inv inv
  | @beaconUpdate u =>
    obtain ⟨_, _, h⟩ := s.popSchedule.serveUpdate_touches u
    rw [State.endFoldIf_map, h]; exact inv
  | missExpiry i => obtain ⟨_, h⟩ := s.takeMiss_touches i; rw [h]; exact inv
  | @missedBeacon i a => obtain ⟨_, _, h⟩ := s.popSchedule.serveExpiry_touches i a; rw [h]; exact inv
  | neighbourClear => exact inv
  | @neighbourSettings n => obtain ⟨_, h⟩ := s.popSchedule.serveNeighbourSettings_touches n; rw [h]; exact inv

/-- Settles O53: the Map's own services keep its invariant, and everything else sends it requests or resets it. -/
theorem occupancyMapStaysLegal : Obligations.OccupancyMapStaysLegal :=
  exec_keeps (P := fun s => s.map.Inv) (fun _ h => h) fun _ _ _ => Effect.keeps_map_inv

end Sys2Proof.Machine
end

section
/-! Ageing, clears, settings and snapshots at the Map (O37, O38). -/

namespace Sys2Proof.Machine

section
variable {s : State}

/-- The request in service leaves the head. -/
theorem State.popMap_eq {q : MapRequest} {more : List MapRequest} (head : s.map.requests = q :: more) :
    s.popMap = { s with map := { s.map with requests := more } } := by
  simp [State.popMap, head]

/-! ### The commands -/

theorem exec_age {more : List MapRequest} (head : s.map.requests = .age :: more) :
    exec .age s = .next s.popMap.serveAge.driveLines := by
  simp only [exec, execAge, head]
  rfl

theorem exec_age_idle (other : s.map.requests.head? ≠ some .age) : exec .age s = .next s.driveLines := by
  show execAge s = _
  unfold execAge
  split
  next head => simp [head] at other
  · rfl

theorem exec_mapClear {more : List MapRequest} (head : s.map.requests = .clear :: more) :
    exec .mapClear s = .next s.popMap.serveClear.driveLines := by
  simp only [exec, execMapClear, head]
  rfl

theorem exec_mapClear_idle (other : s.map.requests.head? ≠ some .clear) : exec .mapClear s = .next s.driveLines := by
  show execMapClear s = _
  unfold execMapClear
  split
  next head => simp [head] at other
  · rfl

theorem exec_mapSettings {m : MapSettings} {more : List MapRequest} (head : s.map.requests = .settings m :: more) :
    exec .mapSettings s = .next (s.popMap.serveSettings m).driveLines := by
  simp only [exec, execMapSettings, head]
  rfl

theorem exec_mapSettings_idle (other : ∀ m, s.map.requests.head? ≠ some (.settings m)) :
    exec .mapSettings s = .next s.driveLines := by
  show execMapSettings s = _
  unfold execMapSettings
  split
  next m rest head => exact absurd (by rw [head]; rfl) (other m)
  · rfl

/-- An open report read holds the copy back (R80). -/
theorem takeSnapshot_open (open' : s.reportOpen = true) : s.takeSnapshot = s := by
  simp [State.takeSnapshot, open']

/-- The copy, when no report read is open (R79). -/
theorem takeSnapshot_copies {more : List MapRequest} (head : s.map.requests = .snapshot :: more)
    (free : s.reportOpen = false) : s.takeSnapshot = { s with
      map := { s.map with requests := more, snapshot := s.map.cells, sequence := (s.map.sequence + 1) % 256 } } := by
  simp [State.takeSnapshot, head, free, State.popMap, State.serveSnapshot]

theorem reportOpen_eq_false (h : ∀ r, s.bus.service ≠ some (.report r)) : s.reportOpen = false := by
  unfold State.reportOpen
  split
  next r service => exact absurd service (h r)
  · rfl

/-! ### Ageing (R74) -/

theorem countHot_fall_le (cells : Vector Nat 256) (shift level : Nat) :
    countHot (cells.map fun c => fallScore c shift) level ≤ countHot cells level := by
  simp only [countHot, Vector.toList_map, List.countP_map]
  refine List.countP_mono_left fun c _ hot => ?_
  simp only [Function.comp_apply, decide_eq_true_eq] at hot ⊢
  exact hot.trans (fallScore_le shift c)

/-- A recount that finds no more hot cells than are held does not rise from 0, and flags nothing (R82). -/
theorem recount_of_le (cooler : countHot s.map.cells s.map.settings.hotLevel ≤ s.map.hotCount) :
    s.recount = { s with map := { s.map with hotCount := countHot s.map.cells s.map.settings.hotLevel } } := by
  simp only [State.recount]
  rw [if_neg (by omega)]

/-- The hot count that the invariant holds (R81). -/
theorem OccupancyMap.Inv.hotCount_eq {m : OccupancyMap} (inv : m.Inv) : m.hotCount = countHot m.cells m.settings.hotLevel := by
  obtain ⟨-, hot, -⟩ := inv
  rw [hot, countHot_eq]

/-- A recount of the cells that the hot count held counts changes nothing. -/
theorem recount_of_counted (counted : s.map.hotCount = countHot s.map.cells s.map.settings.hotLevel) : s.recount = s := by
  rw [recount_of_le counted.ge, ← counted]

theorem serveAge_off (inv : s.map.Inv) (off : s.map.settings.agePeriod = 0) :
    s.serveAge = { s with map := { s.map with cycleAge := 0 } } := by
  rw [State.serveAge, if_pos off]
  exact recount_of_counted inv.hotCount_eq

theorem serveAge_counts (inv : s.map.Inv) (counts : s.map.cycleAge + 1 < s.map.settings.agePeriod) :
    s.serveAge = { s with map := { s.map with cycleAge := s.map.cycleAge + 1 } } := by
  rw [State.serveAge, if_neg (by omega), if_pos counts]
  exact recount_of_counted inv.hotCount_eq

theorem serveAge_falls (inv : s.map.Inv) (on : 1 ≤ s.map.settings.agePeriod)
    (full : s.map.cycleAge + 1 = s.map.settings.agePeriod) : s.serveAge = { s with map := { s.map with
      cells := s.map.cells.map fun c => fallScore c s.map.settings.ageShift, cycleAge := 0
      hotCount := countHot (s.map.cells.map fun c => fallScore c s.map.settings.ageShift) s.map.settings.hotLevel } } := by
  rw [State.serveAge, if_neg (by omega), if_neg (by omega)]
  exact recount_of_le ((countHot_fall_le ..).trans inv.hotCount_eq.ge)

/-- Ageing reaches nothing but the Map: the cycle-age count stands below the age period, so one of the three courses is taken. -/
theorem serveAge_touches_map (inv : s.map.Inv) : ∃ map', s.serveAge = { s with map := map' } := by
  obtain ⟨-, -, -, age, -⟩ := id inv
  have course : s.map.settings.agePeriod = 0 ∨ s.map.cycleAge + 1 < s.map.settings.agePeriod ∨
      1 ≤ s.map.settings.agePeriod ∧ s.map.cycleAge + 1 = s.map.settings.agePeriod := by omega
  obtain off | counts | ⟨on, full⟩ := course
  · exact ⟨_, serveAge_off inv off⟩
  · exact ⟨_, serveAge_counts inv counts⟩
  · exact ⟨_, serveAge_falls inv on full⟩

end

/-- Settles O37: the three courses of an age request, on the Map with the request gone. -/
theorem ageIsServed : Obligations.AgeIsServed := by
  refine ⟨fun s more head inv => ?_, fun s other => changesNothing (exec_age_idle other)⟩
  have done := exec_age head
  have popped := popMap_map_inv inv
  rw [State.popMap_eq head] at done popped
  obtain ⟨_, touches⟩ := serveAge_touches_map popped
  refine ⟨_, done, ?_, ?_, fun off => ?_, fun counts => ?_, fun on full => ?_⟩
  · rw [touches]
    exact OnlyIn.driveLines (by simp [onlyIn_iff]) (by simp)
  · rw [touches]
    exact Reported.driveLines ((Reported.refl s).congr rfl rfl)
  · rw [serveAge_off popped off]
    rfl
  · rw [serveAge_counts popped counts]
    rfl
  · rw [serveAge_falls popped on full]
    refine ⟨fun i => by simp, rfl, countHot_eq .., ?_⟩
    exact (countHot_fall_le ..).trans inv.hotCount_eq.ge

/-- A settings request served: the whole next Map, and the flag when the hot count rises from 0 (R76, R81, R82). -/
theorem serveSettings_effect {s : State} {m : MapSettings} {more : List MapRequest}
    (head : s.map.requests = .settings m :: more) :
    (s.popMap.serveSettings m).map = { s.map with
        requests := more, settings := m
        cycleAge := if m.agePeriod = s.map.settings.agePeriod then s.map.cycleAge else 0
        hotCount := (s.map.cells.toList.filter fun c => decide (m.hotLevel ≤ c)).length } ∧
      OnlyIn [.map, .report] s (s.popMap.serveSettings m) ∧
      Reported (if s.map.hotCount = 0 ∧ 0 < (s.popMap.serveSettings m).map.hotCount then [.mapHot] else []) [] s
        (s.popMap.serveSettings m) := by
  obtain ⟨map, only, reported⟩ := State.recount_effect { s.popMap with map := { s.popMap.map with
    settings := m, cycleAge := if m.agePeriod = s.map.settings.agePeriod then s.map.cycleAge else 0 } }
  refine ⟨map.trans ?_, ?_, reported.congr rfl rfl⟩
  · rw [← countHot_eq]
    simp [State.popMap, head]
  · exact OnlyIn.trans (first := [.map]) (by simp [onlyIn_iff]) only (by simp) (by simp)

/-- Settles O38: each request as the one in service; a snapshot by whether a report read is open. -/
theorem mapClearSettingsAndSnapshot : Obligations.MapClearSettingsAndSnapshot := by
  refine ⟨fun s more head => ?_, fun s m more head => ?_, fun s more head => ?_, fun s c other => ?_⟩
  · have done := exec_mapClear head
    rw [State.popMap_eq head] at done
    exact ⟨_, done, OnlyIn.driveLines (by simp [onlyIn_iff]) (by simp),
      Reported.driveLines ((Reported.refl s).congr rfl rfl), rfl⟩
  · obtain ⟨map, only, reported⟩ := serveSettings_effect head
    exact ⟨_, exec_mapSettings head, only.driveLines (by simp), reported.driveLines, map⟩
  · obtain ⟨_, touches⟩ := s.takeSnapshot_touches
    refine ⟨s.takeSnapshot.driveLines, rfl, ?_, fun closed => ?_, fun r service => ?_⟩
    · rw [touches]
      exact Reported.driveLines ((Reported.refl s).congr rfl rfl)
    · rw [takeSnapshot_copies head (reportOpen_eq_false closed)]
      exact ⟨OnlyIn.driveLines (by simp [onlyIn_iff]) (by simp), rfl⟩
    · rw [takeSnapshot_open (by simp [State.reportOpen, service])]
      exact OnlyIn.driveLines (by simp [onlyIn_iff]) (by simp)
  · obtain ⟨rfl, unclear⟩ | ⟨rfl, unset⟩ | ⟨rfl, uncopied⟩ := other
    · exact changesNothing (exec_mapClear_idle unclear)
    · exact changesNothing (exec_mapSettings_idle unset)
    · have idle : exec .snapshot s = .next s.takeSnapshot.driveLines := rfl
      rw [takeSnapshot_other uncopied] at idle
      exact changesNothing idle

end Sys2Proof.Machine
end

section
/-! The RATES, MAP and NEIGHBOUR records (O48). -/

namespace Sys2Proof.Machine

/-! ### The rate table (R151) -/

/-- The values of a RATES record, in the run of bits that the record's payload forms. -/
theorem rateValue_recordFrame (kind : BitVec 8) (body : RecordBody) (j : Nat) : (recordFrame kind body).rateValue j =
    ((body.w6 ++ body.w5 ++ body.w4 ++ body.w3 ++ body.w2 ++ body.high : BitVec 176).extractLsb' (11 * j) 11).toNat := by
  have high : (recordFrame kind body).w1.extractLsb' 16 16 = body.high := by
    unfold recordFrame
    rw [BitVec.extractLsb'_append_eq_of_le (by omega), BitVec.extractLsb'_append_eq_of_le (by omega)]
    exact BitVec.extractLsb'_eq_self
  rw [Words8.rateValue, high]
  rfl

section
variable (t : RateTable) {base : Nat} (w : Words8) {i : Fin 16}

theorem replace_inside (low : base ≤ i.val) (high : i.val < base + 8) :
    (t.replace base w).d20[i] = w.rateValue (2 * (i.val - base)) ∧
      (t.replace base w).d40[i] = w.rateValue (2 * (i.val - base) + 1) := by
  simp [RateTable.replace, low, high]

theorem replace_outside (outside : i.val < base ∨ base + 8 ≤ i.val) :
    (t.replace base w).d20[i] = t.d20[i] ∧ (t.replace base w).d40[i] = t.d40[i] := by
  have out : ¬ (base ≤ i.val ∧ i.val < base + 8) := by omega
  simp [RateTable.replace, out]

end

theorem judgeRecord_of_ratesLow {w : Words8} (h : w.kindCode = 3#8) (s : State) : s.judgeRecord w = s.judgeRates w 3 0 := by
  simp [State.judgeRecord, h]

theorem judgeRecord_of_ratesHigh {w : Words8} (h : w.kindCode = 4#8) (s : State) : s.judgeRecord w = s.judgeRates w 4 8 := by
  simp [State.judgeRecord, h]

theorem judgeRecord_of_map {w : Words8} (h : w.kindCode = 6#8) (s : State) : s.judgeRecord w = s.judgeMap w := by
  simp [State.judgeRecord, h]

theorem judgeRecord_of_neighbour {w : Words8} (h : w.kindCode = 7#8) (s : State) :
    s.judgeRecord w = s.judgeNeighbour w := by
  simp [State.judgeRecord, h]

/-- A RATES record replaces its half of the rate table. -/
theorem rates_effect {s : State} {addr : Addr} {body : RecordBody} {c : Instr} {kind base : Nat} (takes : TakesRecord s addr)
    (row : c = .ratesLow addr body ∧ kind = 3 ∧ base = 0 ∨ c = .ratesHigh addr body ∧ kind = 4 ∧ base = 8)
    (sum : (recordFrame (BitVec.ofNat 8 kind) body).sum = 0#32) : ∃ report',
      exec c s = .next ({ s.carried addr (recordFrame (BitVec.ofNat 8 kind) body) with
        policy := { s.policy.afterKind kind body.sequence with
          rates := s.policy.rates.replace base (recordFrame (BitVec.ofNat 8 kind) body) }
        report := report' } : State).driveLines ∧
      Reported [.policyAccepted] [] s { s with report := report' } := by
  obtain ⟨report', accepted, reported⟩ := acceptConfiguration_eq s addr (w := recordFrame (BitVec.ofNat 8 kind) body)
    (kind := kind) (kindCode_recordFrame ..) false
  have done : exec c s = .next (State.judgeRates (s.carried addr (recordFrame (BitVec.ofNat 8 kind) body))
      (recordFrame (BitVec.ofNat 8 kind) body) kind base).driveLines := by
    obtain ⟨rfl, rfl, rfl⟩ | ⟨rfl, rfl, rfl⟩ := row
    · rw [← judgeRecord_of_ratesLow (kindCode_recordFrame ..)]
      exact exec_of_judged takes (writesRecord_of_presented rfl rfl) sum
    · rw [← judgeRecord_of_ratesHigh (kindCode_recordFrame ..)]
      exact exec_of_judged takes (writesRecord_of_presented rfl rfl) sum
  rw [State.judgeRates, accepted, sequence_recordFrame] at done
  exact ⟨report', done, reported⟩

/-! ### Clamps (R153, R154) -/

theorem atLeastOne_eq_self_iff (n : Nat) : atLeastOne n = n ↔ n ≠ 0 := by
  unfold atLeastOne
  omega

/-- A MAP record is clamped exactly when a shift or the hot level that it carries is 0. -/
theorem mapFields_clamped_ne_iff (m : MapFields) : (m.clamped != m) = true ↔
    m.riseScan = 0 ∨ m.fallScan = 0 ∨ m.riseCorrupt = 0 ∨ m.fallClean = 0 ∨ m.riseFail = 0 ∨ m.fallSuccess = 0 ∨
      m.settings.hotLevel = 0 ∨ m.settings.ageShift = 0 := by
  obtain ⟨riseScan, fallScan, riseCorrupt, fallClean, riseFail, fallSuccess, _, _, _, _, _, hot, period, age⟩ := m
  rw [bne_iff_ne, ne_eq, MapFields.clamped]
  simp only [MapFields.mk.injEq, MapSettings.mk.injEq, atLeastOne_eq_self_iff]
  tauto

/-- A NEIGHBOUR record is clamped exactly when its tolerance is below 64 or its protect level is 0. -/
theorem neighbourFields_clamped_ne_iff (n : NeighbourFields) :
    (n.clamped != n) = true ↔ n.tolerance < 64 ∨ n.protect = 0 := by
  obtain ⟨tolerance, _, _, protect⟩ := n
  rw [bne_iff_ne, ne_eq, NeighbourFields.clamped]
  simp only [NeighbourFields.mk.injEq, atLeastOne_eq_self_iff, max_eq_right_iff, true_and]
  omega

/-- A MAP record is held as clamped, and its settings are sent to the Map (R76, R153). -/
theorem map_effect {s : State} {addr : Addr} {body : RecordBody} (takes : TakesRecord s addr)
    (sum : (recordFrame 6#8 body).sum = 0#32) {m : MapFields} (carried : (recordFrame 6#8 body).mapCarried = m) :
    ∃ report', exec (.map addr body) s = .next (State.sendMap { s.carried addr (recordFrame 6#8 body) with
        policy := { s.policy.afterKind 6 body.sequence with map := m.clamped }
        report := report' } (.settings m.clamped.settings)).driveLines ∧
      Reported [.policyAccepted] (if m.clamped != m then [.clamp] else []) s { s with report := report' } := by
  obtain ⟨report', accepted, reported⟩ := acceptConfiguration_eq s addr (w := recordFrame 6#8 body) (kind := 6)
    (kindCode_recordFrame ..) (m.clamped != m)
  have done := exec_of_judged (c := .map addr body) takes (writesRecord_of_presented rfl rfl) sum
  rw [judgeRecord_of_map (kindCode_recordFrame ..), State.judgeMap, carried, accepted, sequence_recordFrame] at done
  exact ⟨report', done, reported⟩

/-- A NEIGHBOUR record is held as clamped, and sent to the Schedule (R100, R154). -/
theorem neighbour_effect {s : State} {addr : Addr} {body : RecordBody} (takes : TakesRecord s addr)
    (sum : (recordFrame 7#8 body).sum = 0#32) {n : NeighbourFields} (carried : (recordFrame 7#8 body).neighbourCarried = n) :
    ∃ report', exec (.neighbour addr body) s = .next (State.sendSchedule { s.carried addr (recordFrame 7#8 body) with
        policy := { s.policy.afterKind 7 body.sequence with neighbour := n.clamped }
        report := report' } (.settings n.clamped)).driveLines ∧
      Reported [.policyAccepted] (if n.clamped != n then [.clamp] else []) s { s with report := report' } := by
  obtain ⟨report', accepted, reported⟩ := acceptConfiguration_eq s addr (w := recordFrame 7#8 body) (kind := 7)
    (kindCode_recordFrame ..) (n.clamped != n)
  have done := exec_of_judged (c := .neighbour addr body) takes (writesRecord_of_presented rfl rfl) sum
  rw [judgeRecord_of_neighbour (kindCode_recordFrame ..), State.judgeNeighbour, carried, accepted, sequence_recordFrame] at done
  exact ⟨report', done, reported⟩

/-- Settles O48: the rate table entry by entry, and the two clamped records with the requests that they send. -/
theorem ratesMapAndNeighbourRecords : Obligations.RatesMapAndNeighbourRecords := by
  refine ⟨fun s addr body c kind base takes row sum value hvalue => ?_,
    fun s addr body shift hot age takes sum hshift hhot hage m hm => ?_,
    fun s addr body tolerance protect takes sum htolerance hprotect n hn => ?_⟩
  · obtain ⟨report', done, reported⟩ := rates_effect takes row sum
    have values : ∀ j, (recordFrame (BitVec.ofNat 8 kind) body).rateValue j = value j := fun j =>
      (rateValue_recordFrame ..).trans (hvalue j).symm
    refine ⟨_, done, carriedRecord_of_bus takes s.bus.windows rfl, rfl,
      OnlyIn.driveLines (by simp [onlyIn_iff, State.carried, State.forward]) (by simp),
      Reported.driveLines (reported.congr rfl rfl), rfl, fun i => ⟨fun low high => ?_, fun outside => ?_⟩⟩
    · rw [← values, ← values]
      exact replace_inside s.policy.rates _ low high
    · exact replace_outside s.policy.rates _ outside
  · obtain ⟨report', done, reported⟩ := map_effect takes sum rfl
    obtain rfl := funext hshift
    subst hhot hage
    obtain rfl : (recordFrame 6#8 body).mapCarried.clamped = m := hm.symm
    refine ⟨_, done, carriedRecord_of_bus takes s.bus.windows rfl, rfl,
      OnlyIn.driveLines (by simp [onlyIn_iff, State.carried, State.forward]) (by simp), rfl, rfl, ?_⟩
    simp only [mapFields_clamped_ne_iff] at reported
    exact Reported.driveLines (reported.congr rfl rfl)
  · obtain ⟨report', done, reported⟩ := neighbour_effect takes sum rfl
    subst htolerance hprotect
    obtain rfl : (recordFrame 7#8 body).neighbourCarried.clamped = n := hn.symm
    refine ⟨_, done, carriedRecord_of_bus takes s.bus.windows rfl, rfl,
      OnlyIn.driveLines (by simp [onlyIn_iff, State.carried, State.forward]) (by simp), rfl, rfl, ?_⟩
    simp only [neighbourFields_clamped_ne_iff] at reported
    exact Reported.driveLines (reported.congr rfl rfl)

end Sys2Proof.Machine
end

section
/-! The pending transmit list's invariant (O57): what takes nothing on at the Rewriter and the Admission Unit keeps it, and so do the
next descriptor and the end of an admission. -/

namespace Sys2Proof.Machine

/-! ### What takes nothing on -/

/-- An admission is in progress only while a TX-DMA read is in service (R105). -/
def State.HeldByRead (s : State) : Prop :=
  ∀ v, s.admission.inProgress = some v → ∃ a b, s.bus.service = some (.descriptors a b)

/-- With no TX-DMA read in service no admission is in progress. -/
theorem State.HeldByRead.free {s : State} (held : s.HeldByRead) (other : ∀ a b, s.bus.service ≠ some (.descriptors a b)) :
    s.admission.inProgress = none :=
  Option.eq_none_iff_forall_ne_some.2 fun v hv =>
    have ⟨a, b, read⟩ := held v hv
    other a b read

/-- The Rewriter and the Admission Unit take nothing on: entries only leave the list, the relief counter does not rise, an admission
in progress ends or stays with the read that it holds, and no piece comes to wait behind a held descriptor. -/
structure Wanes (s t : State) : Prop where
  entries : t.rewriter.entries.Sublist s.rewriter.entries
  relief : t.admission.relief ≤ s.admission.relief
  inProgress : t.admission.inProgress = none ∨
    t.admission.inProgress = s.admission.inProgress ∧ t.bus.service = s.bus.service
  behind : ∀ a b, t.bus.service = some (.descriptors a b) → t.bus.service = s.bus.service ∨ b = []

namespace Wanes

theorem refl (s : State) : Wanes s s := ⟨.refl _, le_rfl, .inr ⟨rfl, rfl⟩, fun _ _ _ => .inl rfl⟩

theorem trans {s t u : State} (h : Wanes s t) (g : Wanes t u) : Wanes s u where
  entries := g.entries.trans h.entries
  relief := g.relief.trans h.relief
  inProgress := by
    obtain ended | ⟨same, read⟩ := g.inProgress
    · exact .inl ended
    · rw [same, read]; exact h.inProgress
  behind a b read := by
    obtain same | empty := g.behind a b read
    · rw [same] at read ⊢; exact h.behind a b read
    · exact .inr empty

/-- An update of what the relation does not read. -/
theorem congr {s t u : State} (h : Wanes s t)
    (same : (u.rewriter, u.admission, u.bus.service) = (t.rewriter, t.admission, t.bus.service)) : Wanes s u := by
  obtain ⟨rewriter, admission, service⟩ : u.rewriter = t.rewriter ∧ u.admission = t.admission ∧
    u.bus.service = t.bus.service := by simpa using same
  refine h.trans ⟨?_, ?_, .inr ⟨?_, service⟩, fun _ _ _ => .inl service⟩ <;> simp [rewriter, admission]

theorem of_eq {s t : State} (same : (t.rewriter, t.admission, t.bus.service) = (s.rewriter, s.admission, s.bus.service)) :
    Wanes s t := (refl s).congr same

/-- An operation that comes after an update of what the relation does not read. -/
theorem after {s t u : State} (h : Wanes t u)
    (same : (t.rewriter, t.admission, t.bus.service) = (s.rewriter, s.admission, s.bus.service)) : Wanes s u :=
  (of_eq same).trans h

theorem free {s t : State} (h : Wanes s t) (free : s.admission.inProgress = none) : t.admission.inProgress = none := by
  obtain ended | ⟨same, -⟩ := h.inProgress
  · exact ended
  · rw [same, free]

/-- While no admission is in progress, a service ends or goes on in which nothing is held back. -/
theorem service {s t : State} (free : s.admission.inProgress = none)
    (same : (t.rewriter, t.admission) = (s.rewriter, s.admission))
    (behind : ∀ a b, t.bus.service = some (.descriptors a b) → b = []) : Wanes s t := by
  obtain ⟨rewriter, admission⟩ : t.rewriter = s.rewriter ∧ t.admission = s.admission := by simpa using same
  exact ⟨by rw [rewriter], by rw [admission], .inl (by rw [admission, free]), fun a b read => .inr (behind a b read)⟩

/-- With no admission in progress, a write goes on up to its next marked word. -/
theorem sendPlain {s t : State} (h : Wanes s t) (free : s.admission.inProgress = none) {mark : Type}
    {k : List (Option mark × WriteWord) → Service} (write : ∀ l a b, k l ≠ .descriptors a b)
    (l : List (Option mark × WriteWord)) : Wanes s (t.sendPlain k l) := by
  refine h.trans (.service (h.free free) rfl fun a b kept => ?_)
  rw [State.sendPlain_service] at kept
  split at kept
  · cases kept
  · exact absurd (Option.some.inj kept) (write _ a b)

/-- An operation applied again and again. -/
theorem foldl {α : Type} {f : State → α → State} (hf : ∀ s a, Wanes s (f s a)) (l : List α) (s : State) :
    Wanes s (l.foldl f s) := by
  induction l generalizing s with
  | nil => exact .refl s
  | cons a l ih => exact (hf s a).trans (ih (f s a))

end Wanes

/-! ### Entries that leave -/

theorem State.removeEntry_wanes (s : State) (i : Nat) : Wanes s (s.removeEntry i) :=
  ⟨List.filter_sublist, le_rfl, .inr ⟨rfl, rfl⟩, fun _ _ _ => .inl rfl⟩

theorem State.emptyPending_wanes (s : State) : Wanes s s.emptyPending :=
  ⟨List.nil_sublist _, le_rfl, .inr ⟨rfl, rfl⟩, fun _ _ _ => .inl rfl⟩

theorem State.takeStale_wanes (s : State) (i : Nat) : Wanes s (s.takeStale i) := by
  unfold State.takeStale
  split
  · split
    · exact (s.removeEntry_wanes i).congr rfl
    · exact .refl s
  · exact .refl s

theorem State.abandon_wanes (s : State) (i : Nat) : Wanes s (s.abandon i) := by
  unfold State.abandon
  split
  · exact (s.removeEntry_wanes i).congr rfl
  · exact .refl s

theorem State.abandonments_wanes (s : State) (addr : Addr) (n : Nat) : Wanes s (s.abandonments addr n) := by
  unfold State.abandonments
  split
  · exact Wanes.foldl State.abandon_wanes _ s
  · exact .refl s

theorem State.complete_wanes (s : State) (i : Nat) (w4 w5 : Word) : Wanes s (s.complete i w4 w5) := by
  unfold State.complete
  split
  next e _ =>
    obtain ⟨_, _, _, pushed⟩ := ((s.removeEntry i).count .matched).pushEvidence_touches e w4 w5
    rw [pushed]
    exact (s.removeEntry_wanes i).congr rfl
  · exact .of_eq rfl

theorem State.tickMicrosecond_wanes (s : State) : Wanes s s.tickMicrosecond := by
  unfold State.tickMicrosecond
  split
  · exact .refl s
  · obtain ⟨_, _, _, tick⟩ := s.takeTick_touches
    obtain ⟨_, _, _, expiry⟩ := s.takeTick.takeTrackerExpiry_touches
    have before : Wanes s s.takeTick.takeTrackerExpiry := .of_eq (by rw [expiry, tick])
    have stales : Wanes s s.takeTick.takeTrackerExpiry.takeStales :=
      before.trans (Wanes.foldl State.takeStale_wanes _ _)
    obtain ⟨_, misses⟩ := s.takeTick.takeTrackerExpiry.takeStales.takeMisses_touches
    exact stales.congr (by unfold State.settle; rw [misses]; rfl)

/-! ### Services that end or go on -/

theorem State.nextCompletion_wanes {s : State} (held : s.HeldByRead) : Wanes s s.nextCompletion := by
  unfold State.nextCompletion
  split
  next i w rest read =>
    have closed : Wanes s ((s.complete i w.data (word5After rest)).send [codedWord w (s.completionCode i)]) :=
      (s.complete_wanes ..).congr rfl
    exact closed.sendPlain (held.free (by simp [read])) (by nofun) rest
  · exact .refl s

theorem State.nextRecord_wanes {s : State} (held : s.HeldByRead) : Wanes s s.nextRecord := by
  unfold State.nextRecord
  split
  next arrival r w rest read =>
    obtain ⟨_, _, _, arrived⟩ := s.arriveRecord_touches arrival r
    rw [arrived]
    exact Wanes.sendPlain (.of_eq (by rfl)) (held.free (by simp [read])) (by nofun) rest
  · exact .refl s

theorem State.nextReportWord_wanes {s : State} (held : s.HeldByRead) : Wanes s s.nextReportWord := by
  simp only [State.nextReportWord]
  split
  next address data rest read =>
    have free := held.free (by simp [read])
    split
    · obtain ⟨_, taken⟩ := State.takeSnapshot_touches
        { s.deliver _ with bus := { (s.deliver [s.substituted address data]).bus with service := none } }
      rw [taken]
      exact .service free rfl nofun
    · exact .service free rfl nofun
  · exact .refl s

/-- Stored words that nothing holds back go on with their read. -/
theorem State.continueRead_stored_wanes {s : State} (free : s.admission.inProgress = none) (outs : List (List Word))
    (later : List Segment) : Wanes s (s.continueRead later (outs.map Piece.stored)) := by
  rw [State.continueRead_stored outs later free]
  refine .service free rfl fun a b h => ?_
  dsimp only at h
  split at h <;> cases h
  rfl

theorem State.takeTxRead_wanes {s : State} (free : s.admission.inProgress = none) (addr : Addr) (ws : List Word) :
    Wanes s (s.takeTxRead addr ws) := by
  simp only [State.takeTxRead]
  split
  · exact .of_eq rfl
  next w _ =>
    obtain ⟨outs, later, parts, head⟩ := exists_outside (segmentsOf w addr ws)
    rw [parts, splitOutside_outside outs head]
    exact (State.continueRead_stored_wanes (s := s.forward _) free outs later).after rfl

/-! ### Control records -/

theorem State.radioChange_wanes (s : State) (a b : RadioFields) : Wanes s (s.radioChange a b) := by
  unfold State.radioChange
  split
  · exact (State.emptyPending_wanes _).after rfl
  · split
    · exact (State.emptyPending_wanes _).after rfl
    · exact .refl s

theorem State.judgeKeepalive_wanes (s : State) (w : Words8) : Wanes s (s.judgeKeepalive w) := by
  obtain ⟨_, clamp⟩ := s.countClamp_touches (field w.w2 16 8 == 0)
  simp only [State.judgeKeepalive, clamp]
  split
  · split
    · exact .of_eq rfl
    · unfold State.refreshKeepalive
      dsimp only
      split
      · exact ⟨.refl _, Nat.zero_le _, .inr ⟨rfl, rfl⟩, fun _ _ _ => .inl rfl⟩
      · exact .of_eq rfl
      · exact .of_eq rfl
  · split
    · obtain ⟨_, released⟩ := State.releaseKeepalive_touches _
      rw [released]
      exact .of_eq rfl
    · exact .of_eq rfl

theorem State.judgeRestart_wanes (s : State) (w : Words8) : Wanes s (s.judgeRestart w) :=
  ⟨List.nil_sublist _, Nat.zero_le _, .inl rfl, fun _ _ _ => .inl rfl⟩

/-- Only WINDOWS, RADIO, KEEPALIVE and RESTART reach the Rewriter or the Admission Unit (R139, R140, R157, R160). -/
theorem State.judgeRecord_wanes (s : State) (w : Words8) : Wanes s (s.judgeRecord w) := by
  unfold State.judgeRecord
  split
  · unfold State.judgeWindows
    split
    · exact .of_eq rfl
    · obtain ⟨_, _, accepted⟩ := s.acceptConfiguration_touches w 1 false
      rw [accepted]
      exact (State.emptyPending_wanes _).after rfl
  · unfold State.judgeRadio
    split
    · exact .of_eq rfl
    · obtain ⟨_, _, accepted⟩ := s.acceptConfiguration_touches w 2 (decide (field w.w2 8 8 < 16))
      rw [accepted]
      exact (State.radioChange_wanes _ _ _).after rfl
  · obtain ⟨_, _, h⟩ := s.judgeRates_touches w 3 0
    rw [h]; exact .of_eq rfl
  · obtain ⟨_, _, h⟩ := s.judgeRates_touches w 4 8
    rw [h]; exact .of_eq rfl
  · obtain ⟨_, _, _, _, _, h⟩ := s.judgeMains_touches w
    rw [h]; exact .of_eq rfl
  · obtain ⟨_, _, _, h⟩ := s.judgeMap_touches w
    rw [h]; exact .of_eq rfl
  · obtain ⟨_, _, _, h⟩ := s.judgeNeighbour_touches w
    rw [h]; exact .of_eq rfl
  · obtain ⟨_, _, h⟩ := s.judgeShaping_touches w
    rw [h]; exact .of_eq rfl
  · exact s.judgeKeepalive_wanes w
  · exact .of_eq rfl
  · obtain ⟨_, _, _, _, _, h⟩ := s.judgeClear_touches w
    rw [h]; exact .of_eq rfl
  · exact s.judgeRestart_wanes w
  · exact .of_eq rfl

/-! ### Every effect -/

theorem State.takeTransfer_wanes {s : State} (held : s.HeldByRead) (x : Transfer) : Wanes s (s.takeTransfer x) := by
  have course := taking s x
  generalize s.takeTransfer x = u at course ⊢
  cases course with
  | refused => exact .refl s
  | passed => unfold State.passThrough; split <;> exact .of_eq rfl
  | @read tag addr ws idle =>
    have free := held.free (by simp [idle])
    unfold State.takeRead
    split
    · simp only [State.takeCpuRead]
      split
      · exact .of_eq rfl
      · split
        · exact .service free rfl nofun
        · exact .of_eq rfl
    · exact State.takeTxRead_wanes free addr ws
    · exact .of_eq rfl
    · exact .of_eq rfl
  | @txWrite addr words idle =>
    unfold State.takeTxWrite
    split
    · exact Wanes.sendPlain (.of_eq (by rfl)) (held.free (by simp [idle])) (by nofun) _
    · exact .of_eq rfl
  | @rxWrite addr words idle =>
    unfold State.takeRxWrite
    split
    · exact Wanes.sendPlain (.of_eq (by rfl)) (held.free (by simp [idle])) (by nofun) _
    · exact .of_eq rfl
  | otherWrite => exact .of_eq rfl
  | cpuWrite => exact (State.abandonments_wanes _ _ _).after rfl
  | @record addr w =>
    have carried : Wanes s (s.carried addr w) := .of_eq rfl
    by_cases sum : w.sum = 0#32
    · rw [checkRecord_of_sum sum]
      exact carried.trans (State.judgeRecord_wanes _ w)
    · rw [checkRecord_of_sum_ne sum]
      exact carried.congr rfl

theorem State.assertReset_wanes (s : State) : Wanes s s.assertReset :=
  ⟨List.nil_sublist _, Nat.zero_le _, .inl rfl, nofun⟩

/-- Only the next descriptor of a read and the end of an admission bring anything on. -/
theorem Effect.wanes_or {c : Instr} {s u : State} (held : s.HeldByRead) (e : Effect c s u) :
    Wanes s u ∨ u = s.nextDescriptor ∨ ∃ v, s.admission.inProgress = some v ∧ u = s.endAdmission v := by
  cases e with
  | descriptor => exact .inr (.inl rfl)
  | admission found => exact .inr (.inr ⟨_, found, rfl⟩)
  | idle => exact .inl (.refl s)
  | pinReset => exact .inl s.assertReset_wanes
  | released => exact .inl (.of_eq rfl)
  | presents => exact .inl (State.takeTransfer_wanes held _)
  | tick => obtain ⟨_, _, _, h⟩ := s.takeTick_touches; rw [h]; exact .inl (.of_eq rfl)
  | microsecond => exact .inl s.tickMicrosecond_wanes
  | reportWord => exact .inl (State.nextReportWord_wanes held)
  | completionWord => exact .inl (State.nextCompletion_wanes held)
  | record => exact .inl (State.nextRecord_wanes held)
  | stale i => exact .inl (s.takeStale_wanes i)
  | mainsEdge r => obtain ⟨_, _, _, _, h⟩ := s.mainsTransition_touches r; rw [h]; exact .inl (.of_eq rfl)
  | lockExpiry => obtain ⟨_, _, h⟩ := s.takeLockExpiry_touches; rw [h]; exact .inl (.of_eq rfl)
  | coastExpiry => obtain ⟨_, _, _, h⟩ := s.takeCoastExpiry_touches; rw [h]; exact .inl (.of_eq rfl)
  | @spectralFold f e x =>
    obtain ⟨_, _, _, started⟩ := s.startFold_touches
    obtain ⟨_, _, _, _, _, h⟩ := s.startFold.foldSpectral_touches f x e.voidMap
    rw [h, started]; exact .inl (.of_eq rfl)
  | @receiveFold f e x =>
    obtain ⟨_, _, _, started⟩ := s.startFold_touches
    obtain ⟨_, _, _, _, _, h⟩ := s.startFold.foldReceive_touches f x e.voidMap e.voidNeighbour
    rw [h, started]; exact .inl (.of_eq rfl)
  | @completionFold f e x =>
    obtain ⟨_, _, _, started⟩ := s.startFold_touches
    obtain ⟨_, _, _, _, _, h⟩ := s.startFold.foldCompletion_touches f x e.voidMap
    rw [h, started]; exact .inl (.of_eq rfl)
  | @evidence e forFold =>
    obtain ⟨_, _, served⟩ := s.popMap.serveEvidence_touches e
    obtain ⟨_, _, _, h⟩ := (s.popMap.serveEvidence e).endFoldIf_touches forFold
    rw [h, served]; exact .inl (.of_eq rfl)
  | age => obtain ⟨_, _, h⟩ := s.popMap.serveAge_touches; rw [h]; exact .inl (.of_eq rfl)
  | mapClear => exact .inl (.of_eq rfl)
  | @mapSettings m => obtain ⟨_, _, h⟩ := s.popMap.serveSettings_touches m; rw [h]; exact .inl (.of_eq rfl)
  | snapshot => obtain ⟨_, h⟩ := s.takeSnapshot_touches; rw [h]; exact .inl (.of_eq rfl)
  | @beaconUpdate b forFold =>
    obtain ⟨_, _, served⟩ := s.popSchedule.serveUpdate_touches b
    obtain ⟨_, _, _, h⟩ := (s.popSchedule.serveUpdate b).endFoldIf_touches forFold
    rw [h, served]; exact .inl (.of_eq rfl)
  | missExpiry i => obtain ⟨_, h⟩ := s.takeMiss_touches i; rw [h]; exact .inl (.of_eq rfl)
  | @missedBeacon i a => obtain ⟨_, _, h⟩ := s.popSchedule.serveExpiry_touches i a; rw [h]; exact .inl (.of_eq rfl)
  | neighbourClear => exact .inl (.of_eq rfl)
  | @neighbourSettings n =>
    obtain ⟨_, h⟩ := s.popSchedule.serveNeighbourSettings_touches n
    rw [h]; exact .inl (.of_eq rfl)

end Sys2Proof.Machine
end

section
/-! The pending transmit list through admissions (O57): what reaches the Rewriter, what an admission opens, and O57 itself. -/

namespace Sys2Proof.Machine

/-! ### The list and the descriptor judged -/

/-- The invariant but for the read that an admission is held by (R105, R123, R128). -/
structure PendingList (s : State) : Prop where
  room : s.rewriter.entries.length ≤ 16
  distinct : (s.rewriter.entries.map PendingEntry.index).Nodup
  legal : ∀ e ∈ s.rewriter.entries, e.Legal
  relief : s.admission.relief ≤ 15
  unlisted : ∀ v, s.admission.inProgress = some v → ∀ e ∈ s.rewriter.entries, e.index ≠ v.index

theorem pendingInv_iff (s : State) : s.PendingInv ↔ PendingList s ∧ s.HeldByRead := by
  constructor
  · rintro ⟨room, distinct, legal, relief, judged⟩
    exact ⟨⟨room, distinct, legal, relief, fun v hv => (judged v hv).1⟩, fun v hv => (judged v hv).2⟩
  · rintro ⟨⟨room, distinct, legal, relief, unlisted⟩, held⟩
    exact ⟨room, distinct, legal, relief, fun v hv => ⟨unlisted v hv, held v hv⟩⟩

namespace PendingList

/-- An update of what the list's invariant does not read. -/
theorem congr {s t : State} (h : PendingList s) (same : (t.rewriter, t.admission) = (s.rewriter, s.admission)) :
    PendingList t := by
  obtain ⟨rewriter, admission⟩ : t.rewriter = s.rewriter ∧ t.admission = s.admission := by simpa using same
  obtain ⟨room, distinct, legal, relief, unlisted⟩ := h
  constructor <;> simp only [rewriter, admission] <;> assumption

theorem wanes {s t : State} (h : PendingList s) (w : Wanes s t) : PendingList t where
  room := w.entries.length_le.trans h.room
  distinct := h.distinct.sublist (w.entries.map _)
  legal e he := h.legal e (w.entries.subset he)
  relief := w.relief.trans h.relief
  unlisted v hv e he := by
    obtain ended | ⟨same, -⟩ := w.inProgress
    · rw [ended] at hv; cases hv
    · exact h.unlisted v (same ▸ hv) e (w.entries.subset he)

/-- An admission begins for an index that no entry has. -/
theorem beginAdmission {s : State} (h : PendingList s) {i : Nat} (unlisted : ∀ e ∈ s.rewriter.entries, e.index ≠ i)
    (d : Words8) (now : Time) : PendingList (s.beginAdmission i d now) :=
  ⟨h.room, h.distinct, h.legal, h.relief, fun v hv => by cases hv; exact unlisted⟩

/-- A descriptor reaches the Rewriter: the entry of its index repeats its rewrite, or is superseded (R129 to R131). -/
theorem reachRewriter {s : State} (h : PendingList s) (i : Nat) (d : Words8) (now : Time) :
    PendingList (s.reachRewriter i d now) := by
  unfold State.reachRewriter
  split
  next absent => exact h.beginAdmission (find_index_eq_none absent) d now
  · split
    · exact h.congr rfl
    · have superseded : PendingList ((s.removeEntry i).count .superseded) := (h.wanes (s.removeEntry_wanes i)).congr rfl
      refine superseded.beginAdmission (fun e he => ?_) d now
      simpa using (List.mem_filter.1 he).2

theorem passOnAll {s : State} (h : PendingList s) (ps : List Piece) : PendingList (s.passOnAll ps).1 := by
  induction ps generalizing s with
  | nil => exact h
  | cons p rest ih =>
    unfold State.passOnAll
    split
    · exact h
    · refine ih ?_
      cases p with
      | stored ws => exact h.congr rfl
      | sampled i d now => exact h.reachRewriter i d now

end PendingList

/-- An admission in progress keeps its read in service (R2, R8). -/
theorem State.keepReading_held (s : State) (later : List Segment) (behind : List Piece) :
    (s.keepReading later behind).HeldByRead := by
  intro v hv
  have judging : s.admission.inProgress = some v := by
    unfold State.keepReading at hv
    split at hv <;> exact hv
  exact ⟨later, behind, by simp [State.keepReading, judging]⟩

/-- A read that goes on keeps the invariant, whatever held it before. -/
theorem PendingList.continueRead {s : State} (h : PendingList s) (later : List Segment) (ps : List Piece) :
    (s.continueRead later ps).PendingInv := by
  refine (pendingInv_iff _).2 ⟨?_, State.keepReading_held _ _ _⟩
  obtain ⟨_, kept⟩ := (s.passOnAll ps).1.keepReading_touches later (s.passOnAll ps).2
  rw [State.continueRead, kept]
  exact (h.passOnAll ps).congr rfl

/-! ### The entry that an admission opens -/

theorem deliveredAirtime_le (v : AdmissionView) (d : Decision) : v.deliveredAirtime d ≤ 65535 := by
  unfold AdmissionView.deliveredAirtime
  cases available : v.airtimeAt (v.deliveredWidth d) with
  | none => exact Nat.zero_le _
  | some n => exact airtimeOf_le available

theorem ladder_of_pinned {v : AdmissionView} (pinned : v.frame.pinned = true) :
    v.ladder = { decision := .pass, reason := .pinned, start := v.undeferredStart } := by
  simp [AdmissionView.ladder, pinned]

theorem Decision.defers_or_not (d : Decision) : (d = .defer ∨ d = .narrowDefer) ∨ d = .pass ∨ d = .narrow := by
  cases d <;> decide

/-- The entry agrees with its decision: every decision is bounded as O25 says, and a pinned frame passes at the first step. -/
theorem entry_legal (v : AdmissionView) (timeoutMs : Nat) : (v.entry timeoutMs).Legal := by
  obtain ⟨deferring, undeferred, narrowing, unnarrowed, -, -, planned⟩ := deferralsAreBounded v
  have rewritten : v.verdict.decision = .defer ∨ v.verdict.decision = .narrowDefer →
      ∃ t, t ≠ 0#32 ∧ v.verdict.notBefore = some t := fun defers =>
    have ⟨_, _, _, _, _, _, _, _, _, _, _, nonzero, rewritten⟩ := deferring defers
    ⟨_, nonzero, rewritten⟩
  have split := v.verdict.decision.defers_or_not
  refine ⟨⟨fun given => split.resolve_right fun kept => given (undeferred kept).1, fun defers absent => ?_⟩,
    fun zero => ?_, fun narrows => ?_, unnarrowed, fun pinned => ?_, planned, deliveredAirtime_le v _⟩
  · obtain ⟨t, -, given⟩ := rewritten defers
    exact absurd (given.symm.trans absent) nofun
  · obtain defers | kept := split
    · obtain ⟨t, nonzero, given⟩ := rewritten defers
      exact nonzero (Option.some.inj (given.symm.trans zero))
    · exact absurd ((undeferred kept).1.symm.trans zero) nofun
  · obtain ⟨width, narrowable, delivered, -⟩ := narrowing narrows
    exact ⟨width, narrowable, delivered⟩
  · rw [AdmissionView.entry, verdict_eq_handed, ladder_of_pinned pinned]
    exact ⟨rfl, rfl⟩

/-- The end of an admission up to the words that wait: its entry, whose index no other has, opens in a list with room for it. -/
theorem PendingList.decided {s : State} (h : PendingList s) {v : AdmissionView} (judging : s.admission.inProgress = some v) :
    PendingList (s.decided v) := by
  obtain ⟨r, decided, -⟩ := s.decided_eq (v := v) rfl
  rw [decided]
  generalize he : v.entry s.policy.shaping.timeoutMs = e
  have legal : e.Legal := he ▸ entry_legal v _
  have index : e.index = v.index := he ▸ rfl
  generalize hl : (if 16 ≤ s.rewriter.entries.length then s.rewriter.entries.tail else s.rewriter.entries) = l
  have left : l.Sublist s.rewriter.entries := by
    rw [← hl]
    split
    · exact List.tail_sublist _
    · exact .refl _
  have short : l.length ≤ 15 := by
    have room := h.room
    rw [← hl]
    split
    · rw [List.length_tail]; omega
    · omega
  refine ⟨?_, ?_, ?_, ?_, nofun⟩
  · dsimp only
    split <;> simp <;> omega
  · have distinct := h.distinct.sublist (left.map _)
    dsimp only
    split
    · rw [List.map_append, List.map_singleton, ← List.concat_eq_append, List.nodup_concat]
      refine ⟨fun listed => ?_, distinct⟩
      obtain ⟨x, hx, same⟩ := List.mem_map.1 listed
      exact h.unlisted v judging x (left.subset hx) (same.trans index)
    · rw [List.append_nil]; exact distinct
  · intro x hx
    obtain hx | hx := List.mem_append.1 hx
    · exact h.legal x (left.subset hx)
    · split at hx
      · rw [List.mem_singleton.1 hx]; exact legal
      · cases hx
  · dsimp only
    split
    · exact min_le_left _ _
    · exact Nat.zero_le _

/-! ### Every command -/

theorem State.nextDescriptor_pendingInv {s : State} (inv : s.PendingInv) : s.nextDescriptor.PendingInv := by
  simp only [State.nextDescriptor]
  split
  next g rest behind _ =>
    obtain ⟨_, returned⟩ := s.returnSegment_touches g
    have list : PendingList (s.returnSegment g).1 := by
      rw [returned]
      exact ((pendingInv_iff s).1 inv).1.congr rfl
    exact list.continueRead _ _
  · exact inv

theorem Effect.keeps_pendingInv {c : Instr} {s u : State} (inv : s.PendingInv) (e : Effect c s u) : u.PendingInv := by
  obtain ⟨list, held⟩ := (pendingInv_iff s).1 inv
  obtain w | rfl | ⟨v, judging, rfl⟩ := e.wanes_or held
  · refine (pendingInv_iff u).2 ⟨list.wanes w, fun v hv => ?_⟩
    obtain ended | ⟨same, read⟩ := w.inProgress
    · rw [ended] at hv; cases hv
    · rw [read]; exact held v (same ▸ hv)
  · exact State.nextDescriptor_pendingInv inv
  · obtain ⟨rest, behind, read⟩ := held v judging
    rw [State.endAdmission_eq read]
    exact (list.decided judging).continueRead rest behind

/-- What UNCONFIGURED finds empty at the Rewriter and the Admission Unit (R128, R140). -/
def NothingPending (s : State) : Prop :=
  s.rewriter.entries = [] ∧ s.admission.inProgress = none ∧
    ∀ a b, s.bus.service = some (.descriptors a b) → ∀ i d x, Piece.sampled i d x ∉ b

theorem NothingPending.wanes {s t : State} (h : NothingPending s) (w : Wanes s t) : NothingPending t := by
  obtain ⟨entries, free, unsampled⟩ := h
  refine ⟨List.sublist_nil.1 (entries ▸ w.entries), w.free free, fun a b read => ?_⟩
  · obtain same | rfl := w.behind a b read
    · exact unsampled a b (same ▸ read)
    · exact fun _ _ _ => List.not_mem_nil

/-- In UNCONFIGURED a descriptor returns as stored, and nothing holds it back (R9). -/
theorem State.nextDescriptor_wanes {s : State} (h : NothingPending s) (mode : s.policy.mode = .unconfigured) :
    Wanes s s.nextDescriptor := by
  obtain ⟨-, free, unsampled⟩ := h
  simp only [State.nextDescriptor]
  split
  next g rest behind read =>
    obtain ⟨before, rfl⟩ := exists_stored behind (unsampled _ _ read)
    obtain ⟨outs, later, rfl, head⟩ := exists_outside rest
    obtain ⟨ws, returned⟩ : ∃ ws, s.returnSegment g = (s, .stored ws) := by
      cases g <;> simp [State.returnSegment, State.sampleDescriptor, mode]
    rw [splitOutside_outside outs head, returned]
    simpa using State.continueRead_stored_wanes free (before ++ ws :: outs) later
  · exact .refl s

theorem Effect.keeps_nothingPending {c : Instr} {s u : State} (h : NothingPending s) (mode : s.policy.mode = .unconfigured)
    (e : Effect c s u) : NothingPending u := by
  have ⟨_, free, _⟩ := h
  obtain w | rfl | ⟨v, judging, -⟩ := e.wanes_or (fun v hv => by rw [free] at hv; cases hv)
  · exact h.wanes w
  · exact h.wanes (State.nextDescriptor_wanes h mode)
  · rw [free] at judging; cases judging

/-- Settles O57: an effect takes nothing on, or it is the next descriptor or the end of an admission, which keep the list's invariant
piece by piece; and UNCONFIGURED is reached with nothing pending and brings nothing on. -/
theorem pendingListStaysConsistent : Obligations.PendingListStaysConsistent := by
  refine ⟨exec_keeps (P := State.PendingInv) (fun _ h => h) fun _ _ _ => Effect.keeps_pendingInv,
    exec_keeps (P := fun s => s.policy.mode = .unconfigured → NothingPending s) (fun _ h => h) fun c s u h e mode => ?_⟩
  obtain before | vacant := e.mode_or_vacant mode
  · exact e.keeps_nothingPending (h before) before
  · exact ⟨vacant.entries, vacant.inProgress, vacant.noneSampled⟩

end Sys2Proof.Machine
end

section
/-! An admission up to its decision (O19, O20, O22, O24): the airtime, the start estimate, the nine steps and the search. -/

namespace Sys2Proof.Machine

/-! ### The airtime (R107) -/

section
variable {pre len : Nat} {rates : RateTable} {c : Fin 16} {x : Width}

theorem airtimeOf_eq_none_iff : airtimeOf pre rates len c x = none ↔ len = 0 ∨ rates.entry c x = 0 := by
  simp [airtimeOf, or_iff_not_imp_left]

theorem airtimeOf_of_available (sized : 0 < len) (rated : 0 < rates.entry c x) :
    airtimeOf pre rates len c x = some (min 65535 (pre + 4 * ceilDiv (8 * len + 22) (rates.entry c x))) :=
  if_neg (by omega)

/-- A ceiling is the least number of parts that cover the whole. -/
theorem eq_ceilDiv_iff {a b q : Nat} (whole : 0 < a) (part : 0 < b) : q = ceilDiv a b ↔ a ≤ q * b ∧ (q - 1) * b < a := by
  have positive := ceilDiv_pos part whole
  have short : ceilDiv a b ≤ q - 1 ↔ a ≤ (q - 1) * b := ceilDiv_le_iff part a _
  rw [← ceilDiv_le_iff part, ← not_le, ← short]
  omega

/-- An airtime that is available has one symbol at least. -/
theorem le_of_airtimeOf_eq_some (long : 16 ≤ pre) {n : Nat} (h : airtimeOf pre rates len c x = some n) : 20 ≤ n := by
  have available : ¬ (len = 0 ∨ rates.entry c x = 0) := fun unavailable => by
    rw [airtimeOf_eq_none_iff.2 unavailable] at h
    cases h
  have rated : 0 < rates.entry c x := by omega
  have symbols : 0 < ceilDiv (8 * len + 22) (rates.entry c x) := ceilDiv_pos rated (by omega)
  rw [airtimeOf_of_available (by omega) rated] at h
  cases h
  omega

end

/-- Settles O19: the number of symbols is a ceiling. -/
theorem airtimeOfAFrame : Obligations.AirtimeOfAFrame := by
  refine ⟨fun _ _ => rfl, fun _ _ => ⟨rfl, rfl⟩, fun pre rates len c x => ⟨airtimeOf_eq_none_iff,
    fun q sized cover least => ?_, fun _ rated => ?_, fun long _ => le_of_airtimeOf_eq_some long⟩⟩
  · have rated : 0 < rates.entry c x := Nat.pos_of_mul_pos_left (Nat.lt_of_lt_of_le (by omega) cover)
    rw [airtimeOf_of_available sized rated, ← (eq_ceilDiv_iff (by omega) rated).2 ⟨cover, least⟩]
    rw [min_def]
    congr 1
    split <;> split <;> omega
  · exact ⟨_, (eq_ceilDiv_iff (by omega) rated).1 rfl⟩

/-! ### The start estimate (R108, R109) -/

section
variable {v : AdmissionView}

theorem startEstimate_of_zero (zero : v.frame.notBefore = 0#32) : v.startEstimate = .at v.soonest := if_pos zero

theorem startEstimate_of_ne_zero (given : v.frame.notBefore ≠ 0#32) : v.startEstimate =
    if 1000000 < (v.frame.notBefore - v.offset - v.now).toInt then .far (v.frame.notBefore - v.offset)
    else if (v.frame.notBefore - v.offset - v.now).toInt < v.radio.access then .at v.soonest
    else .at (v.frame.notBefore - v.offset) := if_neg given

theorem undeferredStart_of_unaligned (unaligned : v.aligned = false) : v.undeferredStart = v.soonest := by
  simp [AdmissionView.undeferredStart, unaligned]

theorem undeferredStart_of_far (aligned : v.aligned = true) {nb : Time} (far : v.startEstimate = .far nb) :
    v.undeferredStart = nb := by
  simp [AdmissionView.undeferredStart, aligned, far]

end

/-- Settles O20: the lead of a not-before time by the two bounds it is held against. -/
theorem startEstimate : Obligations.StartEstimate := by
  refine fun v => ⟨startEstimate_of_zero, ?_, undeferredStart_of_unaligned,
    fun aligned => ⟨fun _ => undeferredStart_of_at aligned, fun _ => undeferredStart_of_far aligned⟩⟩
  rintro given nb rfl
  rw [startEstimate_of_ne_zero given]
  refine ⟨fun far => if_pos far, fun near soon => ?_, fun near late => ?_⟩
  · rw [if_neg (by omega), if_pos soon]
    rfl
  · rw [if_neg (by omega), if_neg (by omega)]

/-! ### The search (R120) -/

section
variable {v : AdmissionView} {s0 : Time}

/-- A candidate passes at a width: the requested one, or 20 MHz for a frame that step 6 could narrow (R115, R120). -/
def AdmissionView.Passes (v : AdmissionView) (s0 : Time) (x : Width) (o : Nat) : Prop :=
  v.check (s0 + BitVec.ofNat 32 o) x = true ∧ (x = v.frame.width ∨
    (x = .mhz20 ∧ v.frame.width = .mhz40 ∧ v.frame.narrowable = true ∧ v.rates.d20[v.frame.rate] ≠ 0))

theorem passes_requested_iff {o : Nat} : v.Passes s0 v.frame.width o ↔ v.check (later s0 o) v.frame.width = true :=
  ⟨fun passes => passes.1, fun checked => ⟨checked, .inl rfl⟩⟩

/-- Where the requested width fails, 20 MHz passes only by narrowing. -/
theorem passes_narrow_iff {o : Nat} (fails : ¬ v.Passes s0 v.frame.width o) :
    v.Passes s0 .mhz20 o ↔ (v.canNarrow && v.check (later s0 o) .mhz20) = true := by
  rw [Bool.and_eq_true_iff, canNarrow_iff]
  constructor
  · rintro ⟨checked, requested | ⟨-, width, narrowable, rated⟩⟩
    · exact absurd (requested ▸ ⟨checked, .inl requested⟩) fails
    · exact ⟨⟨⟨width, narrowable⟩, rated⟩, checked⟩
  · rintro ⟨⟨⟨width, narrowable⟩, rated⟩, checked⟩
    exact ⟨checked, .inr ⟨rfl, width, narrowable, rated⟩⟩

/-- The widths at which a candidate can pass. -/
theorem forall_not_passes_iff {o : Nat} :
    (∀ x, ¬ v.Passes s0 x o) ↔ ¬ v.Passes s0 v.frame.width o ∧ ¬ v.Passes s0 .mhz20 o := by
  refine ⟨fun fails => ⟨fails _, fails _⟩, fun ⟨requested, narrowed⟩ x passes => ?_⟩
  obtain rfl | ⟨rfl, -⟩ := passes.2
  · exact requested passes
  · exact narrowed passes

theorem tryAt_eq_none_iff {o : Nat} : v.tryAt s0 o = none ↔ ∀ x, ¬ v.Passes s0 x o := by
  rw [forall_not_passes_iff]
  unfold AdmissionView.tryAt
  split
  next clear => simp [passes_requested_iff.2 clear]
  next blocked =>
    have fails := mt passes_requested_iff.1 blocked
    rw [passes_narrow_iff fails]
    split
    next narrows => simp [narrows]
    next narrows => simp [fails, narrows]

theorem tryAt_eq_some_iff {o : Nat} {d : Decision} {t : Time} : v.tryAt s0 o = some (d, t) ↔
    t = s0 + BitVec.ofNat 32 o ∧ (d = .defer ∧ v.Passes s0 v.frame.width o ∨
      d = .narrowDefer ∧ ¬ v.Passes s0 v.frame.width o ∧ v.Passes s0 .mhz20 o) := by
  unfold AdmissionView.tryAt
  split
  next clear =>
    have passes := passes_requested_iff.2 clear
    constructor
    · rintro ⟨⟩
      exact ⟨rfl, .inl ⟨rfl, passes⟩⟩
    · rintro ⟨rfl, ⟨rfl, -⟩ | ⟨-, fails, -⟩⟩
      · rfl
      · exact absurd passes fails
  next blocked =>
    have fails := mt passes_requested_iff.1 blocked
    rw [passes_narrow_iff fails]
    split
    next narrows =>
      constructor
      · rintro ⟨⟩
        exact ⟨rfl, .inr ⟨rfl, fails, narrows⟩⟩
      · rintro ⟨rfl, ⟨-, passes⟩ | ⟨rfl, -⟩⟩
        · exact absurd passes fails
        · rfl
    next narrows => simp [fails, narrows]

end

/-- Settles O24: the search gives what the first candidate gives that gives anything. -/
theorem searchFindsTheEarliest : Obligations.SearchFindsTheEarliest := by
  intro v s0 passes spelled
  obtain rfl : passes = v.Passes s0 := by
    funext x o
    exact propext (spelled x o)
  refine ⟨fun d t => ?_, ?_⟩
  · rw [AdmissionView.search, List.findSome?_eq_some_iff]
    simp only [tryAt_eq_some_iff, tryAt_eq_none_iff]
    constructor
    · rintro ⟨before, o, after, listed, ⟨start, found⟩, fail⟩
      exact ⟨before, o, after, listed, start, fun x p hp => fail p hp x, found⟩
    · rintro ⟨before, o, after, listed, start, fail, found⟩
      exact ⟨before, o, after, listed, ⟨start, found⟩, fun p hp x => fail x p hp⟩
  · rw [AdmissionView.search, List.findSome?_eq_none_iff]
    simp only [tryAt_eq_none_iff]
    exact ⟨fun fail x p hp => fail p hp x, fun fail p hp x => fail x p hp⟩

/-! ### The ladder (section 7.5) -/

section
variable {v : AdmissionView} {s0 : Time}

theorem ladder_of_unaligned (unpinned : v.frame.pinned = false) (unaligned : v.aligned = false) :
    v.ladder = { decision := .pass, reason := .unaligned, start := v.undeferredStart } := by
  simp [AdmissionView.ladder, unpinned, unaligned]

theorem ladder_of_unavailable (unpinned : v.frame.pinned = false) (aligned : v.aligned = true)
    (unavailable : v.airtimeAt v.frame.width = none) :
    v.ladder = { decision := .pass, reason := .badfield, start := v.undeferredStart } := by
  simp [AdmissionView.ladder, unpinned, aligned, unavailable]

theorem ladder_of_far (unpinned : v.frame.pinned = false) (aligned : v.aligned = true)
    (available : v.airtimeAt v.frame.width ≠ none) {nb : Time} (far : v.startEstimate = .far nb) :
    v.ladder = { decision := .pass, reason := .far, start := nb } := by
  simp [AdmissionView.ladder, unpinned, aligned, available, far]

theorem ladder_of_at (unpinned : v.frame.pinned = false) (aligned : v.aligned = true)
    (available : v.airtimeAt v.frame.width ≠ none) (estimate : v.startEstimate = .at s0) : v.ladder = v.judge s0 := by
  simp [AdmissionView.ladder, unpinned, aligned, available, estimate]

theorem judge_of_clear (clear : v.check s0 v.frame.width = true) :
    v.judge s0 = { decision := .pass, reason := .clear, start := s0 } := if_pos clear

theorem judge_of_narrow (blocked : v.check s0 v.frame.width = false) (can : v.canNarrow = true)
    (clear : v.check s0 .mhz20 = true) : v.judge s0 = { decision := .narrow, reason := .shaped, start := s0 } := by
  simp [AdmissionView.judge, blocked, can, clear]

/-- Steps 7 to 9: neither width is clear at S0, so the frame is deferred or passes. -/
theorem judge_of_blocked (blocked : v.check s0 v.frame.width = false)
    (narrows : (v.canNarrow && v.check s0 .mhz20) = false) :
    v.judge s0 = if v.frame.deferrable = true ∧ v.shaping.holdLimit ≠ 0 then
        if v.reliefReached then { decision := .pass, reason := .relief, start := s0 }
        else ((v.search s0).map fun found => { decision := found.1, reason := .shaped, start := found.2 }).getD
          { decision := .pass, reason := .nowindow, start := s0 }
      else { decision := .pass, reason := .nowindow, start := s0 } := by
  unfold AdmissionView.judge
  rw [if_neg (by simp [blocked]), if_neg (by simp [narrows])]
  simp only [Bool.and_eq_true, bne_iff_ne]
  cases v.search s0 <;> rfl

theorem reliefReached_iff : v.reliefReached = true ↔ 1 ≤ v.shaping.reliefCount ∧ v.shaping.reliefCount ≤ v.relief := by
  simp [AdmissionView.reliefReached, Nat.one_le_iff_ne_zero]

end

/-- Settles O22: the steps in their order, the first four at the ladder and the others at the start estimate. -/
theorem admissionLadder : Obligations.AdmissionLadder := by
  refine fun v => ⟨rfl, ladder_of_pinned, ladder_of_unaligned, fun unpinned aligned =>
    ⟨ladder_of_unavailable unpinned aligned, fun available => ⟨fun nb => ladder_of_far unpinned aligned available,
      fun s0 estimate => ?_⟩⟩⟩
  rw [ladder_of_at unpinned aligned available estimate]
  refine ⟨judge_of_clear, fun blocked => ⟨?_, fun unnarrowed => ?_⟩⟩
  · rintro ⟨width, narrowable, rated, clear⟩
    exact judge_of_narrow blocked (canNarrow_iff.2 ⟨⟨width, narrowable⟩, rated⟩) clear
  have narrows : (v.canNarrow && v.check s0 .mhz20) = false := by
    rw [← Bool.not_eq_true, Bool.and_eq_true_iff, canNarrow_iff]
    rintro ⟨⟨⟨width, narrowable⟩, rated⟩, clear⟩
    exact unnarrowed ⟨width, narrowable, rated, clear⟩
  rw [judge_of_blocked blocked narrows]
  refine ⟨fun kept => if_neg ?_, fun deferrable hold => ?_⟩
  · rintro ⟨deferrable, hold⟩
    obtain fixed | unlimited := kept
    · rw [fixed] at deferrable; cases deferrable
    · exact hold unlimited
  rw [if_pos ⟨deferrable, Nat.one_le_iff_ne_zero.1 hold⟩]
  refine ⟨fun counted reached => if_pos (reliefReached_iff.2 ⟨counted, reached⟩), fun unrelieved => ?_⟩
  rw [reliefReached_eq_false_iff.2 unrelieved]
  exact ⟨fun d t found => by rw [found]; rfl, fun nothing => by rw [nothing]; rfl⟩

end Sys2Proof.Machine
end

section
/-! The KEEPALIVE record (O50): the value first, the mode second (R157). -/

namespace Sys2Proof.Machine

/-! ### The fields a KEEPALIVE record carries (section 11.4) -/

@[simp] theorem kindCode_keepaliveFrame (value : BitVec 16) (body : RecordBody) : (keepaliveFrame value body).kindCode = 9#8 :=
  kindCode_recordFrame 9#8 body

@[simp] theorem sequence_keepaliveFrame (value : BitVec 16) (body : RecordBody) :
    (keepaliveFrame value body).sequence = body.sequence :=
  sequence_recordFrame 9#8 body

theorem value_keepaliveFrame (value : BitVec 16) (body : RecordBody) :
    (keepaliveFrame value body).w2.extractLsb' 0 16 = value := by
  unfold keepaliveFrame
  rw [BitVec.extractLsb'_append_eq_of_add_le (by omega)]
  exact BitVec.extractLsb'_eq_self

/-- The period lies above the value, so it is that of the body. -/
theorem period_keepaliveFrame (value : BitVec 16) (body : RecordBody) :
    field (keepaliveFrame value body).w2 16 8 = (body.w2.extractLsb' 16 8).toNat := by
  unfold field keepaliveFrame
  rw [BitVec.extractLsb'_append_eq_of_le (by omega)]
  simp

theorem judgeRecord_of_keepalive {w : Words8} (h : w.kindCode = 9#8) (s : State) : s.judgeRecord w = s.judgeKeepalive w := by
  simp [State.judgeRecord, h]

/-- A command that writes a KEEPALIVE record does what the judgement of the record does. -/
theorem exec_of_keepalive {s : State} {addr : Addr} {body : RecordBody} {value : BitVec 16} {c : Instr}
    (takes : TakesRecord s addr) (writes : WritesRecord c addr (keepaliveFrame value body))
    (sum : (keepaliveFrame value body).sum = 0#32) : exec c s =
      .next ((s.carried addr (keepaliveFrame value body)).judgeKeepalive (keepaliveFrame value body)).driveLines := by
  rw [exec_of_judged takes writes sum, judgeRecord_of_keepalive (kindCode_keepaliveFrame ..)]

/-! ### ACTIVE entered, kept and left (R156, R157) -/

/-- In STANDBY and ACTIVE a refresh makes the mode ACTIVE and loads the counter; only entry from STANDBY clears the relief counter. -/
theorem State.refreshKeepalive_eq {s : State} (configured : s.policy.mode ≠ .unconfigured) (period : Nat) :
    s.refreshKeepalive period = { s with
      policy := { s.policy with mode := .active, keepaliveCounter := period }
      admission := { s.admission with relief := if s.policy.mode = .standby then 0 else s.admission.relief } } := by
  unfold State.refreshKeepalive
  split
  case h_1 standby => simp [standby]
  case h_2 active => rw [if_neg (by simp [active]), ← active]
  case h_3 unconfigured => exact absurd unconfigured configured

/-- A release acts in ACTIVE alone. -/
theorem State.releaseKeepalive_eq (s : State) : s.releaseKeepalive = { s with
    policy := if s.policy.mode = .active then { s.policy with mode := .standby, keepaliveCounter := 0 } else s.policy } := by
  unfold State.releaseKeepalive
  split
  case h_1 active => rw [if_pos active]
  case h_2 standby => rw [if_neg (by simp [standby])]
  case h_3 unconfigured => rw [if_neg (by simp [unconfigured])]

/-! ### The record judged (R157) -/

/-- A KEEPALIVE record accepted, before its value acts: the clamp counted, the acceptance recorded and the period held. -/
def State.acceptKeepalive (s : State) (w : Words8) : State :=
  { (s.countClamp (field w.w2 16 8 == 0)).accept w with policy.keepalivePeriod := atLeastOne (field w.w2 16 8) }

/-- The value is judged first, the mode second (R157). -/
theorem State.judgeKeepalive_eq (s : State) (w : Words8) : s.judgeKeepalive w =
    if w.w2.extractLsb' 0 16 = 0x5AC3#16 then
      if s.policy.mode = .unconfigured then s.refuse w .notReady
      else (s.acceptKeepalive w).refreshKeepalive (max 1 (field w.w2 16 8))
    else if w.w2.extractLsb' 0 16 = 0#16 then (s.acceptKeepalive w).releaseKeepalive
    else s.refuse w .keepaliveValue := rfl

/-- The Policy Unit after it accepts a KEEPALIVE record, before the value acts. -/
def Policy.afterKeepalive (p : Policy) (sequence : BitVec 8) (period : Nat) : Policy :=
  { p with lastAcceptedKind := 9#8, lastAcceptedSequence := sequence, keepalivePeriod := period }

/-- What an accepted KEEPALIVE record does whatever its value: a period of 0 is held as 1 and counted (R148, R157). -/
theorem acceptKeepalive_eq (s : State) (addr : Addr) (value : BitVec 16) (body : RecordBody) : ∃ report',
    (s.carried addr (keepaliveFrame value body)).acceptKeepalive (keepaliveFrame value body) =
      { s.carried addr (keepaliveFrame value body) with
        policy := s.policy.afterKeepalive body.sequence (max 1 (body.w2.extractLsb' 16 8).toNat), report := report' } ∧
    Reported [.policyAccepted] (if (body.w2.extractLsb' 16 8).toNat = 0 then [.clamp] else []) s
      { s with report := report' } := by
  rw [State.acceptKeepalive, period_keepaliveFrame, Policy.afterKeepalive, ← kindCode_keepaliveFrame value body,
    ← sequence_keepaliveFrame value body]
  by_cases clamped : (body.w2.extractLsb' 16 8).toNat = 0
  · rw [beq_iff_eq.2 clamped, if_pos clamped]
    exact ⟨_, rfl, (((Reported.refl s).count (c := .clamp) (by simp)).setFlag .policyAccepted).congr rfl rfl⟩
  · rw [beq_eq_false_iff_ne.2 clamped, if_neg clamped]
    exact ⟨_, rfl, ((Reported.refl s).setFlag .policyAccepted).congr rfl rfl⟩

/-- A refresh in STANDBY or ACTIVE is accepted, and loads the counter with the period it holds. -/
theorem judgeKeepalive_refresh {s : State} (configured : s.policy.mode ≠ .unconfigured) (addr : Addr) (body : RecordBody) :
    ∃ report',
      (s.carried addr (keepaliveFrame 0x5AC3#16 body)).judgeKeepalive (keepaliveFrame 0x5AC3#16 body) =
        { s.carried addr (keepaliveFrame 0x5AC3#16 body) with
          policy := { s.policy.afterKeepalive body.sequence (max 1 (body.w2.extractLsb' 16 8).toNat) with
            mode := .active, keepaliveCounter := max 1 (body.w2.extractLsb' 16 8).toNat }
          admission := { s.admission with relief := if s.policy.mode = .standby then 0 else s.admission.relief }
          report := report' } ∧
      Reported [.policyAccepted] (if (body.w2.extractLsb' 16 8).toNat = 0 then [.clamp] else []) s
        { s with report := report' } := by
  obtain ⟨report', accepted, reported⟩ := acceptKeepalive_eq s addr 0x5AC3#16 body
  refine ⟨report', ?_, reported⟩
  rw [State.judgeKeepalive_eq, value_keepaliveFrame, period_keepaliveFrame, if_pos rfl, accepted]
  exact (if_neg configured).trans (State.refreshKeepalive_eq (by exact configured) _)

/-- A release is accepted in every mode, and leaves ACTIVE. -/
theorem judgeKeepalive_release (s : State) (addr : Addr) (body : RecordBody) : ∃ report',
    (s.carried addr (keepaliveFrame 0#16 body)).judgeKeepalive (keepaliveFrame 0#16 body) =
      { s.carried addr (keepaliveFrame 0#16 body) with
        policy := if s.policy.mode = .active then
            { s.policy.afterKeepalive body.sequence (max 1 (body.w2.extractLsb' 16 8).toNat) with
              mode := .standby, keepaliveCounter := 0 }
          else s.policy.afterKeepalive body.sequence (max 1 (body.w2.extractLsb' 16 8).toNat)
        report := report' } ∧
    Reported [.policyAccepted] (if (body.w2.extractLsb' 16 8).toNat = 0 then [.clamp] else []) s
      { s with report := report' } := by
  obtain ⟨report', accepted, reported⟩ := acceptKeepalive_eq s addr 0#16 body
  refine ⟨report', ?_, reported⟩
  rw [State.judgeKeepalive_eq, value_keepaliveFrame, if_neg (by decide), if_pos rfl, accepted]
  exact State.releaseKeepalive_eq _

/-- A refused KEEPALIVE record does what the statements call a refusal. -/
theorem refusedWith_keepalive (s : State) (addr : Addr) (value : BitVec 16) (body : RecordBody) (reason : RejectReason) :
    RefusedWith reason body.sequence s
      ((s.carried addr (keepaliveFrame value body)).refuse (keepaliveFrame value body) reason).driveLines := by
  have refused := refusedWith_refuse s addr (keepaliveFrame value body) reason
  rwa [sequence_keepaliveFrame] at refused

/-- Settles O50: a refresh by whether the mode is UNCONFIGURED, a release, and another value. -/
theorem keepaliveRecords : Obligations.KeepaliveRecords := by
  intro s addr body period takes hperiod counted p hcounted hp
  subst hperiod hcounted hp
  refine ⟨fun sum => ?_, fun sum => ?_, fun value noRefresh noRelease sum => ?_⟩
  · have done := exec_of_keepalive (value := 0x5AC3#16) (c := .keepaliveRefresh addr body) takes
      (writesRecord_of_presented rfl rfl) sum
    by_cases unconfigured : s.policy.mode = .unconfigured
    · rw [State.judgeKeepalive_eq, value_keepaliveFrame, if_pos rfl, if_pos (by exact unconfigured)] at done
      exact ⟨_, done, carriedRecord_of_bus takes s.bus.windows rfl, rfl, fun _ => refusedWith_keepalive s addr _ body _,
        fun configured => absurd unconfigured configured⟩
    · obtain ⟨report', judged, reported⟩ := judgeKeepalive_refresh unconfigured addr body
      rw [judged] at done
      exact ⟨_, done, carriedRecord_of_bus takes s.bus.windows rfl, rfl, fun h => absurd h unconfigured, fun _ =>
        ⟨rfl, OnlyIn.driveLines (by simp [onlyIn_iff, State.carried, State.forward]) (by simp),
          Reported.driveLines (reported.congr rfl rfl), rfl⟩⟩
  · have done := exec_of_keepalive (value := 0#16) (c := .keepaliveRelease addr body) takes
      (writesRecord_of_presented rfl rfl) sum
    obtain ⟨report', judged, reported⟩ := judgeKeepalive_release s addr body
    rw [judged] at done
    exact ⟨_, done, carriedRecord_of_bus takes s.bus.windows rfl, rfl,
      OnlyIn.driveLines (by simp [onlyIn_iff, State.carried, State.forward]) (by simp),
      Reported.driveLines (reported.congr rfl rfl), fun active => if_pos active, fun other => if_neg other⟩
  · have done := exec_of_keepalive (c := .keepaliveValue addr value body) takes (writesRecord_of_presented rfl rfl) sum
    rw [State.judgeKeepalive_eq, value_keepaliveFrame, if_neg noRefresh, if_neg noRelease] at done
    exact ⟨_, done, carriedRecord_of_bus takes s.bus.windows rfl, refusedWith_keepalive s addr _ body _⟩

end Sys2Proof.Machine
end

section
/-! The output lines after a command (O3, O4): every answer is a state whose lines were just driven, so ATTN and WIN stand at
the levels that the manual's words give them in that state. -/

namespace Sys2Proof.Machine

/-! ### ATTN (R168) -/

/-- Settles O3: a set bit of the flag word is one of its 16. -/
theorem attnFollowsFlagsAndEnables : Obligations.AttnFollowsFlagsAndEnables := by
  intro c s t h
  obtain ⟨u, -, rfl⟩ := effect_of_exec h
  refine (driveLines_attn_iff u).trans (exists_congr fun n => ?_)
  exact ⟨fun both => ⟨BitVec.lt_of_getLsbD both.1, both⟩, And.right⟩

/-! ### What WIN reads: the phase, the slices and the run of bins -/

/-- The tracker answers a phase exactly when phase is available, with its r and P (R43). -/
theorem Tracker.phase_eq_some_iff (tr : Tracker) (ph : Phase) :
    tr.phase = some ph ↔ PhaseIs tr ph.ref ph.period := by
  unfold Tracker.phase PhaseIs
  constructor
  · intro found
    split at found
    next r p state ref period => cases found; exact ⟨.inl state, ref, period⟩
    next r p state ref period => cases found; exact ⟨.inr state, ref, period⟩
    next => cases found
  · rintro ⟨state | state, ref, period⟩ <;> rw [state, ref, period]

theorem Tracker.phase_eq_none_iff (tr : Tracker) : tr.phase = none ↔ ∀ r p, ¬ PhaseIs tr r p := by
  rw [Option.eq_none_iff_forall_ne_some]
  exact ⟨fun no r p is => no ⟨r, p⟩ ((tr.phase_eq_some_iff ⟨r, p⟩).2 is),
    fun no ph found => no _ _ ((tr.phase_eq_some_iff ph).1 found)⟩

theorem PhaseIs.period {tr : Tracker} {r : Time} {p : Nat} (is : PhaseIs tr r p) : tr.period = some p :=
  have ⟨_, _, period⟩ := is
  period

/-- The primary pair is what a 20 MHz observation covers (R57). -/
theorem inPrimaryPair_iff (position : Secondary) (k : Nat) :
    InPrimaryPair position k ↔ k < 4 ∧ (primaryPair position).has k = true :=
  slice_iff .mhz20 .mhz20 position k

/-- A bin is in the run from c to e when it comes no later than e, counting upward from c (R170). -/
theorem Span.run_has_iff_le (b c e : Nat) : (Span.run c e).has b = true ↔ (b + 64 - c) % 64 ≤ (e + 64 - c) % 64 :=
  decide_eq_true_iff.trans Nat.lt_succ_iff

/-! ### WIN's conditions (R169 to R171) -/

/-- The burst condition is the manual's, for a phase with a positive period (R170). -/
theorem State.burst_iff (s : State) {ph : Phase} (pos : 1 ≤ ph.period) :
    s.burst ph = true ↔ BurstHolds s ph.ref ph.period := by
  simp only [State.burst, anyCell_iff, Span.run_has_iff_le, Phase.bin_eq_binAt pos, decide_eq_true_eq, BurstHolds,
    inPrimaryPair_iff, later]
  refine exists_congr fun b => exists_congr fun k => ?_
  constructor
  · rintro ⟨bin, held, slice, has, hot⟩
    exact ⟨bin, ⟨slice, has⟩, hot, held⟩
  · rintro ⟨bin, ⟨slice, has⟩, hot, held⟩
    exact ⟨bin, held, slice, has, hot⟩

/-- The neighbour condition is the manual's, for a table whose intervals are positive (R171). -/
theorem State.neighbourCondition_iff (s : State)
    (regular : ∀ i : Fin 8, ∀ e, s.schedule.slots[i] = some e → 1 ≤ e.interval) :
    s.neighbourCondition = true ↔
      TrackedWindowMeets s.schedule.slots s.schedule.settings s.report.win.lead s.air.airTime s.air.airTime 1 :=
  anyBlocks_iff _ _ _ _ _ _ regular

/-- WIN is active exactly when its condition holds (R169). -/
theorem State.winActive_iff (s : State)
    (regular : ∀ i : Fin 8, ∀ e, s.schedule.slots[i] = some e → 1 ≤ e.interval)
    (cycles : ∀ p, s.tracker.period = some p → 1 ≤ p) : s.winActive = true ↔ WinHolds s := by
  unfold State.winActive WinHolds
  rw [Bool.and_eq_true, Bool.and_eq_true, bne_iff_ne, and_assoc]
  refine and_congr_right fun _ => and_congr_right fun _ => ?_
  split
  next unavailable =>
    have none' := (Tracker.phase_eq_none_iff _).1 unavailable
    exact ⟨fun h => absurd h Bool.false_ne_true, fun ⟨r, p, is, _⟩ => absurd is (none' r p)⟩
  next ph available =>
    have is := (Tracker.phase_eq_some_iff _ ph).1 available
    rw [Bool.or_eq_true, Bool.and_eq_true, s.burst_iff (cycles _ is.period), s.neighbourCondition_iff regular]
    constructor
    · exact fun h => ⟨_, _, is, h⟩
    · rintro ⟨r, p, is', h⟩
      obtain rfl : (⟨r, p⟩ : Phase) = ph :=
        Option.some.inj (((Tracker.phase_eq_some_iff _ ⟨r, p⟩).2 is').symm.trans available)
      exact h

/-! ### WIN's level (R172) -/

theorem State.winLevel_of_reset {s : State} (held : s.bus.resetAsserted = true) : s.winLevel = false := by
  simp [State.winLevel, held]

theorem State.winLevel_of_activeHigh {s : State} (released : s.bus.resetAsserted = false)
    (high : s.report.win.activeLow = false) : s.winLevel = s.winActive := by
  simp [State.winLevel, released, high]

theorem State.winLevel_of_activeLow {s : State} (released : s.bus.resetAsserted = false)
    (low : s.report.win.activeLow = true) : s.winLevel = !s.winActive := by
  simp [State.winLevel, released, low]

/-- Settles O4: WIN is driven at the end of the command from the very state that the command leaves. -/
theorem winFollowsItsConditions : Obligations.WinFollowsItsConditions := by
  intro c s t h regular cycles
  obtain ⟨u, -, rfl⟩ := effect_of_exec h
  have level : u.driveLines.report.winHigh = u.driveLines.winLevel := rfl
  have active := u.driveLines.winActive_iff regular cycles
  rw [level]
  refine ⟨State.winLevel_of_reset, fun released high => ?_, fun released low => ?_⟩
  · rw [State.winLevel_of_activeHigh released high, active]
  · rw [State.winLevel_of_activeLow released low, Bool.not_eq_true', ← Bool.not_eq_true, active]

end Sys2Proof.Machine
end

section
/-! One step and the queue of waiting commands (O1): an equation for each form the queue has. -/

namespace Sys2Proof.Machine

/-- The queue is the model's (log entry 2): its front command leaves it before having its effect. -/
theorem step_of_pending_cons {c : Instr} {rest : List Instr} {s : State} (front : s.pending = c :: rest) :
    step s = exec c { s with pending := rest } := by
  simp only [step, front]

/-- With no command waiting the part idles (log entry 2). -/
theorem step_of_pending_nil {s : State} (empty : s.pending = []) : step s = .next s := by
  simp only [step, empty]

/-- Settles O1, by the two forms of the queue. -/
theorem stepTakesTheFrontCommand : Obligations.StepTakesTheFrontCommand :=
  ⟨fun _ _ _ front => step_of_pending_cons front, fun _ empty => step_of_pending_nil empty⟩

end Sys2Proof.Machine
end
